-- ==== Sys2Proof/Word.lean ====
section
/-! DEFINITION. The word types of the model: a byte as the service port, the gantry line and the configuration memory
carry it, and a local time (00_scope, Local Time: 32 bits, wrapping). -/

namespace Sys2Proof

/-- One byte. -/
abbrev Byte := BitVec 8

/-- A local time of the station clock, in microseconds, 32 bits wide and wrapping (00_scope, Local Time). -/
abbrev Time := BitVec 32

end Sys2Proof
end

