-- ==== Sys2Proof/Syntax.lean ====
section
/-! DEFINITION. The commands the part takes: one constructor per row of spec/opcode_table.json, with the operands the
row's event names. `t` is always the local time at which the command is taken. -/

namespace Sys2Proof

/-- The role strap (R190; codes of TABLE 12-1). -/
inductive Role where
  | camera
  | approach
  deriving DecidableEq, Repr

/-- The two pairs of the gantry line. -/
inductive LinePair where
  | a
  | b
  deriving DecidableEq, Repr

/-- What CLEAR_LOCKOUT names (R186; codes of TABLE 12-3). -/
inductive LockoutUnit where
  | camera
  | flash
  | both
  deriving DecidableEq, Repr

/-- The four symbols of the line code (R200). -/
inductive LineCode where
  | zero
  | one
  | j
  | k
  deriving DecidableEq, Repr

/-- One bit time as a pair's receiver hears it (R200): the levels of its two halves, true for high, and the local time
at which it ends. -/
structure LineSymbol where
  firstHalf : Bool
  secondHalf : Bool
  ends : Time
  deriving DecidableEq, Repr

/-- A byte received at the service port; `stn`, `role` and `camRdy` are the straps and CAM_RDY at that instant, read only
if the byte completes a command (DESIGN CHOICE, log 5). -/
structure ServiceByte where
  value : Byte
  stn : BitVec 5
  role : Role
  camRdy : Bool
  deriving DecidableEq, Repr

/-- The seven commands of the service port (TABLE 9-5), with their parameters (TABLE 12-3). -/
inductive ServiceCommand where
  | status
  | takeRecord
  | peekPeers
  | peekTracks
  | forceBeams (curtain : Fin 4) (mask pattern : Byte)
  | clearLockout (unit : LockoutUnit)
  | restart
  deriving DecidableEq, Repr

/-- The rows of spec/opcode_table.json, in the table's order. -/
inductive Instr where
  /-- POWER_ON: RST_N becomes inactive; the straps then read `stn` and `role`. -/
  | powerOn (stn : BitVec 5) (role : Role)
  /-- PAGE_READ_COMPLETE: the 256th byte of the page read under way ends; `page` is what was read, `camRdy` the level
  of CAM_RDY at that instant (R154). -/
  | pageReadComplete (t : Time) (page : List Byte) (camRdy : Bool)
  /-- COMMON_PAGE_READ_START. -/
  | commonPageReadStart (t : Time)
  /-- LISTENING_DEADLINE_EXPIRES. -/
  | listeningDeadlineExpires (t : Time)
  /-- INDICATOR_PHASE_EXPIRES. -/
  | indicatorPhaseExpires (t : Time)
  /-- RAW_LEVEL_CHANGE: the input of `beam` of curtain port C`curtain` changes to interrupted (high) or clear (low). -/
  | rawLevelChange (t : Time) (curtain : Fin 4) (beam : Fin 8) (interrupted : Bool)
  /-- STUCK_DEADLINE_EXPIRES. -/
  | stuckDeadlineExpires (t : Time) (curtain : Fin 4) (beam : Fin 8)
  /-- UNMASK_DEADLINE_EXPIRES. -/
  | unmaskDeadlineExpires (t : Time) (curtain : Fin 4) (beam : Fin 8)
  /-- VALIDATION_DEADLINE_EXPIRES. -/
  | validationDeadlineExpires (t : Time) (curtain : Fin 4)
  /-- ORPHAN_DEADLINE_EXPIRES. -/
  | orphanDeadlineExpires (t : Time) (pair : Fin 2)
  /-- LINE_TRANSITION: a transition on `pair`; `heard` are the bit times that the pair's receiver has heard to
  their end since the transition taken before it on that pair, oldest first. -/
  | lineTransition (t : Time) (pair : LinePair) (heard : List LineSymbol)
  /-- ENTER_JABBERING. -/
  | enterJabbering (t : Time) (pair : LinePair)
  /-- PAIR_QUIET. -/
  | pairQuiet (t : Time) (pair : LinePair)
  /-- QUIET_DEADLINE_EXPIRES. -/
  | quietDeadlineExpires (t : Time)
  /-- SLOT_END. -/
  | slotEnd (t : Time)
  /-- READBACK_MISMATCH. -/
  | readbackMismatch (t : Time) (pair : LinePair)
  /-- FRAME_SENT. -/
  | frameSent (t : Time)
  /-- OUTBOUND_ENTRY_EXPIRES: the entry with queuing order `order`. -/
  | outboundEntryExpires (t : Time) (order : Nat)
  /-- PRESENCE_DEADLINE_EXPIRES. -/
  | presenceDeadlineExpires (t : Time)
  /-- STALE_DEADLINE_EXPIRES of the peer entry of `station`. -/
  | staleDeadlineExpires (t : Time) (station : Nat)
  /-- LOST_DEADLINE_EXPIRES of the peer entry of `station`. -/
  | lostDeadlineExpires (t : Time) (station : Nat)
  /-- PLAN_HORIZON_DEADLINE_EXPIRES of the track with id `id`. -/
  | planHorizonDeadlineExpires (t : Time) (id : Byte)
  /-- MISS_DEADLINE_EXPIRES of the track with id `id`. -/
  | missDeadlineExpires (t : Time) (id : Byte)
  /-- ARM_POINT_DEADLINE_EXPIRES of the track with id `id`. -/
  | armPointDeadlineExpires (t : Time) (id : Byte)
  /-- ORDER_MESSAGE_END. -/
  | orderMessageEnd (t : Time)
  /-- NEIGHBOUR_CLAIM_EXPIRES of the claim with key (`station`, `id`). -/
  | neighbourClaimExpires (t : Time) (station : Nat) (id : Byte)
  /-- BOOT_DEADLINE_EXPIRES. -/
  | bootDeadlineExpires (t : Time)
  /-- READY: CAM_RDY becomes active. -/
  | ready (t : Time)
  /-- READY_DEADLINE_EXPIRES. -/
  | readyDeadlineExpires (t : Time)
  /-- PULSE_TIME_REACHED of frame `frame` of the burst of track `id`. -/
  | pulseTimeReached (t : Time) (id : Byte) (frame : Nat)
  /-- ISSUE_PULSE. -/
  | issuePulse (t : Time)
  /-- TRIGGER_END. -/
  | triggerEnd (t : Time)
  /-- FLASH_INSTANT of frame `frame` of track `id`. -/
  | flashInstant (t : Time) (id : Byte) (frame : Nat)
  /-- FLASH_FIRE_END. -/
  | flashFireEnd (t : Time)
  /-- FLASH_RETURN: FL_RET becomes active. -/
  | flashReturn (t : Time)
  /-- RETURN_DEADLINE_EXPIRES of the return awaited for frame `frame` of track `id`. -/
  | returnDeadlineExpires (t : Time) (id : Byte) (frame : Nat)
  /-- STATUS: the last byte of a STATUS command is received. -/
  | status (t : Time)
  /-- TAKE_RECORD, likewise. -/
  | takeRecord (t : Time)
  /-- PEEK_PEERS, likewise. -/
  | peekPeers (t : Time)
  /-- PEEK_TRACKS, likewise. -/
  | peekTracks (t : Time)
  /-- FORCE_BEAMS, likewise; bit i of `mask` and `pattern` for beam i (TABLE 12-3). -/
  | forceBeams (t : Time) (curtain : Fin 4) (mask pattern : Byte)
  /-- CLEAR_LOCKOUT, likewise; `camRdy` is the level of CAM_RDY at that instant (R154). -/
  | clearLockout (t : Time) (unit : LockoutUnit) (camRdy : Bool)
  /-- RESTART, likewise; the straps then read `stn` and `role` (R198). -/
  | restart (t : Time) (stn : BitVec 5) (role : Role)
  /-- INVALID_COMMAND: the last byte of the full-length command `bytes`, which R179 discards, is received. -/
  | invalidCommand (t : Time) (bytes : List Byte)
  /-- SERVICE_BYTE_ERROR: a byte that names no command, has a framing error, or arrives while DISCARDING. -/
  | serviceByteError (t : Time) (byte : Byte) (framingError : Bool)
  /-- GAP_DEADLINE_EXPIRES. -/
  | gapDeadlineExpires (t : Time)
  /-- REPLY_END: the last reply byte is sent; `stn`, `role` and `camRdy` are the straps and CAM_RDY at that instant,
  read only if the pending command then taken reads them. -/
  | replyEnd (t : Time) (stn : BitVec 5) (role : Role) (camRdy : Bool)
  /-- SERVICE_BYTE_RECEIVED: a byte received without framing error. -/
  | serviceByteReceived (t : Time) (byte : ServiceByte)
  /-- RST_N_ASSERTED: RST_N becomes active. -/
  | rstNAsserted
  deriving DecidableEq, Repr

end Sys2Proof
end

