-- ==== Sys2Proof/Config.lean ====
section
/-! DEFINITION. What an installation fixes: the configuration image (R193, TABLE 10-2, TABLE 12-7) as plain data, and
the model's one free value. -/

namespace Sys2Proof

/-- The two sides of the gantry (00_scope, Tracks, Sides and Directions). -/
inductive Side where
  | up
  | down
  deriving DecidableEq, Repr

/-- A curtain pair's configuration (TABLE 1-1). Lengths in mm, the break time in µs. -/
structure PairConfig where
  enabled : Bool
  track : Nat
  side : Side
  d : Nat
  b : Nat
  /-- Height above rail of beam 0 to beam 7; 0 means the beam has no height. -/
  heights : List Nat
  minBeams : Nat
  minBreak : Nat
  deriving DecidableEq, Repr

/-- One item of the caption table (R157). Bit i of `enable` stands for track i + 1 (R202). -/
structure CaptionItem where
  enable : Byte
  fullRow : Nat
  fullColumn : Nat
  stripRow : Nat
  stripColumn : Nat
  glyphSize : Nat
  glyphAdd : Nat
  deriving DecidableEq, Repr

/-- The configuration image: one value for each configured quantity of the part (R193, TABLE 10-2). -/
structure Image where
  ownTrack : Nat
  /-- Presence period, ms. -/
  presencePeriod : Nat
  /-- Bit i stands for track i + 1 (R202). -/
  adjacency : Byte
  /-- Merge window M, yield limit Y and guard G (TABLE 7-1), µs. -/
  mergeWindow : Nat
  yieldLimit : Nat
  guardTime : Nat
  /-- Stuck limit, ms (R1). -/
  stuckLimit : Nat
  /-- Plan horizon, ms (R89). -/
  planHorizon : Nat
  /-- Trim limit, µs (R102). -/
  trimLimit : Nat
  pair0 : PairConfig
  pair1 : PairConfig
  /-- The planning quantities of TABLE 6-2. -/
  stripEnable : Bool
  stripBaseCode : Nat
  stripAdd : Nat
  rowRef : Nat
  hRef : Nat
  rowsPerM : Nat
  rowTime : Nat
  recovery : Nat
  zone : Nat
  blurLimit : Nat
  eMax : Nat
  nMax : Nat
  pMax : Nat
  flashSpacing : Nat
  gainBoost : Nat
  triggerLatency : Nat
  armLead : Nat
  cameraSetup : Nat
  /-- Ready margin, µs; boot window, ms; return window, µs (TABLE 8-1). -/
  readyMargin : Nat
  bootWindow : Nat
  returnWindow : Nat
  /-- The six items of the caption table, in the order of TABLE 8-5. -/
  captions : List CaptionItem
  deriving DecidableEq, Repr

namespace Config

/-- FREE VALUE (log 14). The bits of the byte layouts that spec/12_formats.md neither names nor says to be 0, by the
place of the byte. It has no body: nothing can be proved of its value. -/
opaque spareBits : Nat → Byte

end Config

end Sys2Proof
end

