-- ==== Sys2Proof/Machine/Bytes.lean ====
section
/-! DEFINITION. Numbers and bytes: arithmetic on whole numbers (00_scope, Units, Ranges and Arithmetic), the byte order
and check byte of chapter 12, the line's bit order and CRC (R200), and the lengths of service commands (R201). -/

namespace Sys2Proof.Machine

/-! ### Whole-number arithmetic -/

/-- n / d rounded to nearest. -/
def roundNat (n d : Nat) : Nat := (2 * n + d) / (2 * d)

/-- n / d rounded to nearest, halves away from zero. -/
def roundInt (n : Int) (d : Nat) : Int :=
  if n < 0 then -((roundNat n.natAbs d : Nat) : Int) else ((roundNat n.natAbs d : Nat) : Int)

/-- The ceiling of n / d, for d > 0. -/
def ceilDiv (n d : Nat) : Nat := (n + d - 1) / d

/-- x clamped to [lo, hi]. -/
def clampNat (lo hi x : Nat) : Nat := if x < lo then lo else if hi < x then hi else x

/-- x clamped to [lo, hi]. -/
def clampInt (lo hi x : Int) : Int := if x < lo then lo else if hi < x then hi else x

/-! ### Bytes -/

/-- The low eight bits of a number. -/
def byteOf (n : Nat) : Byte := BitVec.ofNat 8 n

/-- k bytes of a number, most significant first (chapter 12). -/
def bytesOf : Nat → Nat → List Byte
  | 0, _ => []
  | k + 1, n => byteOf (n / 256 ^ k) :: bytesOf k n

/-- k bytes of a signed number in two's complement (chapter 12). -/
def signedBytes (k : Nat) (i : Int) : List Byte := bytesOf k (i % (256 ^ k : Nat)).toNat

/-- A local time: four bytes. -/
def timeBytes (t : Time) : List Byte := bytesOf 4 t.toNat

/-- A yes or no sent as 1 or 0. -/
def boolByte (b : Bool) : Byte := if b then 1#8 else 0#8

/-- The number k bytes carry, most significant first. -/
def numberOf (bytes : List Byte) : Nat := bytes.foldl (fun n b => n * 256 + b.toNat) 0

/-- The k-byte number at an offset. -/
def numberAt (bytes : List Byte) (offset k : Nat) : Nat := numberOf ((bytes.drop offset).take k)

/-- The exclusive OR of all bytes. -/
def xorBytes (bytes : List Byte) : Byte := bytes.foldl (· ^^^ ·) 0#8

/-- A message with its check byte, which makes the exclusive OR of every byte 0 (R201). -/
def withCheck (bytes : List Byte) : List Byte := bytes ++ [xorBytes bytes]

/-- A byte whose bits in `stated` are those of `value`; the other bits are left open by the layouts (log 14). -/
def withSpare (place : Nat) (stated value : Byte) : Byte :=
  (value &&& stated) ||| (Config.spareBits place &&& ~~~stated)

/-- The bits of a byte, least significant first: the order on the line (R200). -/
def lineBits (b : Byte) : List Bool := (List.range 8).map b.getLsbD

/-- The byte of eight line bits, first received first. -/
def byteOfBits (bits : List Bool) : Byte :=
  bits.foldr (fun b acc => (acc <<< 1) ||| boolByte b) 0#8

/-- Whole bytes of a run of line bits; bits left over are dropped. -/
def gatherBytes : List Bool → List Byte
  | b0 :: b1 :: b2 :: b3 :: b4 :: b5 :: b6 :: b7 :: rest => byteOfBits [b0, b1, b2, b3, b4, b5, b6, b7] :: gatherBytes rest
  | _ => []

/-- One bit into the CRC register, generator x^16 + x^12 + x^5 + 1 (R200). -/
def crcBit (r : BitVec 16) (b : Bool) : BitVec 16 :=
  (r <<< 1) ^^^ (if r.getLsbD 15 != b then 0x1021#16 else 0#16)

/-- One byte into the CRC register, most significant bit first (R200). -/
def crcByte (r : BitVec 16) (b : Byte) : BitVec 16 := (lineBits b).reverse.foldl crcBit r

/-- The CRC of a frame body: the register starts at all ones and is not inverted (R200). -/
def lineCrc (body : List Byte) : BitVec 16 := body.foldl crcByte 0xFFFF#16

/-! ### The line code (R200) -/

/-- The symbol of a bit. -/
def codeOfBit (b : Bool) : LineCode := if b then .one else .zero

/-- The levels of a symbol's two halves, true for high: 0 is low then high, 1 high then low, J high and K low for the
whole bit time (R200). -/
def codeLevels : LineCode → Bool × Bool
  | .zero => (false, true)
  | .one => (true, false)
  | .j => (true, true)
  | .k => (false, false)

/-- The symbol that two half-bit levels are. -/
def codeOfLevels (first second : Bool) : LineCode :=
  match first, second with
  | false, true => .zero
  | true, false => .one
  | true, true => .j
  | false, false => .k

/-- The start delimiter (R200). -/
def startDelimiter : List LineCode := [.one, .zero, .j, .k, .j, .k, .one, .zero]

/-- The symbols of a frame: start delimiter, body, CRC high byte first, each byte least significant bit first (R26,
R200). -/
def frameCodes (body : List Byte) (crc : BitVec 16) : List LineCode :=
  startDelimiter ++ ((body ++ bytesOf 2 crc.toNat).flatMap lineBits).map codeOfBit

/-- One more symbol while a start delimiter is looked for, `matched` of whose symbols have been heard: how many have then
been heard; none when a J or K stands outside a start delimiter, a code violation (R37, R200). -/
def delimiterStep (matched : Nat) (x : LineCode) : Option Nat :=
  if startDelimiter[matched]? = some x then some (matched + 1)
  else if 2 < matched then none
  else
    match x with
    | .one => some 1
    | .zero => some 0
    | .j => none
    | .k => none

/-! ### BCD -/

/-- Adds one to a number of k BCD digits: a digit that passes 9 becomes 0 and carries (R175). -/
def bcdCarry : Nat → Nat → Nat
  | 0, _ => 0
  | k + 1, x => if x % 16 < 9 then x + 1 else 16 * bcdCarry k (x / 16)

/-- The passage number after p (R175). -/
def bcdSucc (p : BitVec 24) : BitVec 24 := BitVec.ofNat 24 (bcdCarry 6 p.toNat)

/-- The passage number k after p. -/
def bcdAdvance : Nat → BitVec 24 → BitVec 24
  | 0, p => p
  | k + 1, p => bcdAdvance k (bcdSucc p)

/-- The character of a decimal digit, in ASCII (PRESUMED, log 38). -/
def digitChar (n : Nat) : Byte := byteOf (0x30 + n % 10)

/-- The six digits of a passage number as characters, highest first (chapter 12, PASSAGE). -/
def passageChars (p : BitVec 24) : List Byte :=
  [20, 16, 12, 8, 4, 0].map fun shift => byteOf (0x30 + p.toNat / 2 ^ shift % 16)

/-- Three decimal digits with leading zeros. -/
def threeDigits (n : Nat) : List Byte := [digitChar (n / 100), digitChar (n / 10), digitChar n]

/-! ### Service commands (R179, R201) -/

/-- Bytes of a service command, check byte included, by its first byte (TABLE 12-3); 0 when it names no command. -/
def commandLength (first : Byte) : Nat :=
  if first = 0x51#8 ∨ first = 0x52#8 ∨ first = 0x53#8 ∨ first = 0x54#8 ∨ first = 0x57#8 then 2
  else if first = 0x55#8 then 5
  else if first = 0x56#8 then 3
  else 0

/-- The bytes of a service command (R201). -/
def commandBytes (c : ServiceCommand) : List Byte :=
  withCheck <| match c with
    | .status => [0x51#8]
    | .takeRecord => [0x52#8]
    | .peekPeers => [0x53#8]
    | .peekTracks => [0x54#8]
    | .forceBeams curtain mask pattern => [0x55#8, byteOf curtain.val, mask, pattern]
    | .clearLockout .camera => [0x56#8, 1#8]
    | .clearLockout .flash => [0x56#8, 2#8]
    | .clearLockout .both => [0x56#8, 3#8]
    | .restart => [0x57#8]

/-- The command a full-length run of bytes is; none when a parameter is out of its range (R179, R201). The check byte
is not looked at here. -/
def commandOf (bytes : List Byte) : Option ServiceCommand :=
  match bytes with
  | [0x51#8, _] => some .status
  | [0x52#8, _] => some .takeRecord
  | [0x53#8, _] => some .peekPeers
  | [0x54#8, _] => some .peekTracks
  | [0x55#8, curtain, mask, pattern, _] =>
    if h : curtain.toNat < 4 then some (.forceBeams ⟨curtain.toNat, h⟩ mask pattern) else none
  | [0x56#8, 1#8, _] => some (.clearLockout .camera)
  | [0x56#8, 2#8, _] => some (.clearLockout .flash)
  | [0x56#8, 3#8, _] => some (.clearLockout .both)
  | [0x57#8, _] => some .restart
  | _ => none

/-- A command of full length that R179 judges complete. -/
def judgeCommand (bytes : List Byte) : Option ServiceCommand :=
  if xorBytes bytes = 0#8 then commandOf bytes else none

/-- The full-length service commands that R179 discards: a bad check byte, or a parameter out of its range. -/
def discardedCommand (bytes : List Byte) : Bool :=
  match bytes with
  | [] => false
  | c :: _ => commandLength c != 0 && bytes.length == commandLength c
      && (judgeCommand bytes).isNone

end Sys2Proof.Machine
end

