-- ==== Sys2Proof/WellFormed.lean ====
section
/-! DEFINITION. Which commands can occur: the checks on operands that the operand types do not already make. -/

namespace Sys2Proof

/-- A command whose operands are ones the event can have. -/
def Instr.wellFormed : Instr → Bool
  | .pageReadComplete _ page _ => page.length == 256
  | .staleDeadlineExpires _ p => decide (1 ≤ p) && decide (p ≤ 31)
  | .lostDeadlineExpires _ p => decide (1 ≤ p) && decide (p ≤ 31)
  | .neighbourClaimExpires _ p _ => decide (1 ≤ p) && decide (p ≤ 31)
  | .pulseTimeReached _ _ k => decide (k < 4)
  | .flashInstant _ _ k => decide (k < 4)
  | .returnDeadlineExpires _ _ k => decide (k < 4)
  | .invalidCommand _ bytes => Machine.discardedCommand bytes
  | .serviceByteReceived _ _ => true
  | .serviceByteError _ _ _ => true
  | .powerOn _ _ => true
  | .commonPageReadStart _ => true
  | .listeningDeadlineExpires _ => true
  | .indicatorPhaseExpires _ => true
  | .rawLevelChange _ _ _ _ => true
  | .stuckDeadlineExpires _ _ _ => true
  | .unmaskDeadlineExpires _ _ _ => true
  | .validationDeadlineExpires _ _ => true
  | .orphanDeadlineExpires _ _ => true
  | .lineTransition _ _ _ => true
  | .enterJabbering _ _ => true
  | .pairQuiet _ _ => true
  | .quietDeadlineExpires _ => true
  | .slotEnd _ => true
  | .readbackMismatch _ _ => true
  | .frameSent _ => true
  | .outboundEntryExpires _ _ => true
  | .presenceDeadlineExpires _ => true
  | .planHorizonDeadlineExpires _ _ => true
  | .missDeadlineExpires _ _ => true
  | .armPointDeadlineExpires _ _ => true
  | .orderMessageEnd _ => true
  | .bootDeadlineExpires _ => true
  | .ready _ => true
  | .readyDeadlineExpires _ => true
  | .issuePulse _ => true
  | .triggerEnd _ => true
  | .flashFireEnd _ => true
  | .flashReturn _ => true
  | .status _ => true
  | .takeRecord _ => true
  | .peekPeers _ => true
  | .peekTracks _ => true
  | .forceBeams _ _ _ _ => true
  | .clearLockout _ _ _ => true
  | .restart _ _ _ => true
  | .gapDeadlineExpires _ => true
  | .replyEnd _ _ _ _ => true
  | .rstNAsserted => true

end Sys2Proof
end

