-- ==== Sys2Proof/Decode.lean ====
section
/-! DEFINITION. Words and commands. spec/opcode_table.json gives no row any bits (no "fixed", no "fields"), so no word
spells a command; the byte layouts of the service port, the line and the page are read in Sys2Proof/Machine/Operands.lean
and Sys2Proof/Machine/Configuration.lean. -/

namespace Sys2Proof

/-- The command a word spells by the table's bits: none, for the table gives no row bits. -/
def decodeTableWord (_nbits _w : Nat) : Option Instr := none

end Sys2Proof
end

