-- ==== Sys2Proof/Machine/State.lean ====
section
/-! DEFINITION. Everything the JC-620 holds, block by block as TABLE 0-1 lists the blocks, as plain data; the queue of
waiting commands; and the state right after power-on (INVENTORY.md, State, has each field's rule and reset value). -/

namespace Sys2Proof.Machine

/-! ### Curtain Interface Unit (chapter 1) -/

/-- TABLE 1-3. -/
inductive BreakState where
  | clear
  | pending
  | broken
  deriving DecidableEq, Repr

/-- TABLE 1-2. `raw` is the level at the beam's input, true when interrupted (R3); it is the raw level while the CIU
evaluates, and an input's level is no state that a reset changes (DESIGN CHOICE, log 25). `forcePattern` true is
INTERRUPTED. -/
structure Beam where
  raw : Bool
  masked : Bool
  stuckDeadline : Option Time
  unmaskDeadline : Option Time
  forceMask : Bool
  forcePattern : Bool
  deriving DecidableEq, Repr

/-- 1.3. Bit i of a beam set stands for beam i. -/
structure Curtain where
  beams : Vector Beam 8
  breakState : BreakState
  breakStart : Option Time
  validationDeadline : Option Time
  breakBeams : Byte
  breakMasked : Byte
  dead : Bool
  deriving DecidableEq, Repr

/-- TABLE 1-4. -/
inductive SequencerState where
  | idle
  | outer
  | inner
  | departing
  deriving DecidableEq, Repr

/-- TABLE 1-4. -/
structure Sequencer where
  state : SequencerState
  t1 : Option Time
  t2 : Option Time
  orphanDeadline : Option Time
  expiryHeld : Bool
  pendingOuter : Option Time
  forcedSeen : Bool
  approachSeq : Byte
  deriving DecidableEq, Repr

/-- Curtains C0 to C3 and pairs 0 and 1. -/
structure Ciu where
  curtains : Vector Curtain 4
  pairs : Vector Sequencer 2
  deriving DecidableEq, Repr

/-! ### Gantry line: Line Interface Unit (chapter 2) -/

/-- TABLE 2-1, R28. -/
inductive PairCondition where
  | normal
  | jabbering
  deriving DecidableEq, Repr

/-- R37; `ended`: the pair's first 10 µs without a transition have closed the copy. -/
inductive CopyProgress where
  | none
  | receiving
  | ended
  deriving DecidableEq, Repr

/-- The copy in hand on one pair (R37). `matched` counts the symbols of a start delimiter heard so far; `bits` are the
bits gathered after the delimiter, oldest first; `noted` a fault noted for BAD; `firstSeen` the pair's first transition
of the busy period; `jabbered` whether the pair was JABBERING at any instant of it (R28). -/
structure Copy where
  progress : CopyProgress
  matched : Nat
  mark : Option Time
  bits : List Bool
  noted : Bool
  firstSeen : Option Time
  jabbered : Bool
  deriving DecidableEq, Repr

/-- R38. -/
inductive Judgement where
  | absent
  | good
  | bad
  deriving DecidableEq, Repr

/-- What the LIU holds per pair (TABLE 2-1). `silenceFrom`: the instant the 10 µs without a transition are counted from,
absent once they have passed (R28). `readbackMatch`: MATCH. -/
structure PairState where
  condition : PairCondition
  activityStart : Option Time
  silenceFrom : Option Time
  readbackMatch : Bool
  copy : Copy
  quality : Nat
  deriving DecidableEq, Repr

/-- TABLE 2-3. -/
inductive Transmitter where
  | empty
  | waitIdle
  | defer
  | send
  deriving DecidableEq, Repr

/-- What this station drove in the busy period (R38, R42): nothing, a frame still being driven, one sent whole, one
cut. -/
inductive OwnDrive where
  | nothing
  | driving
  | sent
  | cut
  deriving DecidableEq, Repr

/-- The frame being driven on both pairs (R26): own frame mark, body bytes, CRC, and the end of the last CRC bit. -/
structure DrivenFrame where
  mark : Time
  body : List Byte
  crc : BitVec 16
  ends : Time
  deriving DecidableEq, Repr

/-- TABLE 2-1. A queue entry (frame in hand, collided frame) is named by its queuing order. -/
structure Liu where
  busy : Bool
  quietDeadline : Option Time
  pairA : PairState
  pairB : PairState
  transmitter : Transmitter
  waitOrigin : Option Time
  slotEnd : Option Time
  frameInHand : Option Nat
  collisions : Nat
  collided : Option Nat
  driven : Option DrivenFrame
  ownDrive : OwnDrive
  preferred : LinePair
  deriving DecidableEq, Repr

/-! ### Frame Exchange (chapter 3) -/

/-- Contents of a SIGHTING entry (R47). `t2` is never sent. -/
structure SightingContents where
  pair : Fin 2
  track : Nat
  seq : Byte
  v : Nat
  band : Option (Nat × Nat)
  clamped : Bool
  partialHeight : Bool
  forced : Bool
  t2 : Time
  deriving DecidableEq, Repr

/-- Contents of a CLAIM entry (R48). `centre` and `sentBefore` are never sent. -/
structure ClaimContents where
  trackId : Byte
  track : Nat
  centre : Time
  n : Nat
  s : Nat
  e : Nat
  tol : Nat
  flashed : List Nat
  sentBefore : Bool
  deriving DecidableEq, Repr

/-- Kind and contents of an outbound entry (TABLE 3-2). -/
inductive Outbound where
  | presence
  | sighting (c : SightingContents)
  | claim (c : ClaimContents)
  | release (trackId : Byte)
  deriving DecidableEq, Repr

/-- TABLE 3-2; the class and the expiry deadline follow from the kind and the contents (TABLE 3-1, R51, R52). -/
structure QueueEntry where
  order : Nat
  out : Outbound
  onLine : Bool
  revision : Option ClaimContents
  withdrawn : Bool
  deriving DecidableEq, Repr

/-- `queue` is kept head first (R49). `nextOrder` is the model's own counter (DESIGN CHOICE, log 24). -/
structure Fx where
  queue : List QueueEntry
  nextOrder : Nat
  presenceDeadline : Option Time
  deriving DecidableEq, Repr

/-! ### Peer Table (chapter 4) -/

/-- TABLE 4-2. -/
inductive PeerState where
  | absent
  | present
  | stale
  | lost
  deriving DecidableEq, Repr

/-- 4.1. -/
structure Mark where
  pair : Fin 2
  track : Nat
  side : Side
  d : Nat
  b : Nat
  dead : Bool
  deriving DecidableEq, Repr

/-- TABLE 4-1. `period` in ms. -/
structure PeerEntry where
  state : PeerState
  role : Option Role
  period : Option Nat
  lastPresence : Option Time
  staleDeadline : Option Time
  lostDeadline : Option Time
  marks : List Mark
  flashLockout : Bool
  cameraLockout : Bool
  deriving DecidableEq, Repr

/-- Entry of station p at place p − 1; the verify sides with their own verify D (R75). -/
structure Ptb where
  peers : Vector PeerEntry 31
  verifyUp : Option Nat
  verifyDown : Option Nat
  deriving DecidableEq, Repr

/-! ### Head tracks and plans (chapters 5, 6, 7) -/

/-- The basis of a prediction (TABLE 5-2). -/
inductive Basis where
  | oneMark
  | twoMark
  | verified
  | verifyOnly
  deriving DecidableEq, Repr

/-- 5.2. -/
structure Prediction where
  vg : Nat
  tPred : Time
  tol : Nat
  basis : Basis
  travel : Nat
  deriving DecidableEq, Repr

/-- 5.1, sighting entry. -/
structure Sighting where
  station : Nat
  pair : Fin 2
  d : Nat
  side : Side
  seq : Byte
  t2 : Time
  v : Nat
  band : Option (Nat × Nat)
  partialHeight : Bool
  forced : Bool
  staleSource : Bool
  deriving DecidableEq, Repr

/-- 5.1, verify entry. -/
structure VerifyEntry where
  d : Nat
  t2 : Time
  v : Nat
  band : Option (Nat × Nat)
  partialHeight : Bool
  forced : Bool
  deriving DecidableEq, Repr

/-- R113. -/
inductive Format where
  | full
  | strip
  deriving DecidableEq, Repr

/-- A claim key: station and track id. -/
structure ClaimKey where
  station : Nat
  trackId : Byte
  deriving DecidableEq, Repr

/-- TABLE 6-1. `tPred` is the prediction's time the plan was formed from; `plannedFlashed`, `plannedGains` and
`plannedFlashless` are the flashed-frame list, gain steps and FLASHLESS as the Capture Planner formed them, from which
each resolution starts (R141). `r` is R, `sz` is S_z. -/
structure Plan where
  format : Format
  rows : Nat
  top : Nat
  r : Nat
  sz : Nat
  n : Nat
  s : Nat
  offsets : List Int
  e : Nat
  flashed : List Nat
  gains : List Nat
  plannedFlashed : List Nat
  plannedGains : List Nat
  plannedFlashless : Bool
  sigma : Int
  coLit : Option ClaimKey
  tPred : Time
  centres : List Time
  flashTimes : List Time
  pulses : List Time
  armPoint : Time
  deriving DecidableEq, Repr

/-- The flash value of a frame (R104). -/
inductive FlashValue where
  | own
  | coLit
  | none
  deriving DecidableEq, Repr

/-- The camera outcome of a frame (5.1). -/
inductive CameraOutcome where
  | ok
  | readoutSuspect
  | late
  | timeout
  | cancelled
  deriving DecidableEq, Repr

/-- 5.1, frame entry, with what R104 needs to tell when the frame is settled. -/
structure FrameEntry where
  index : Nat
  pulse : Time
  flash : FlashValue
  outcome : Option CameraOutcome
  misfire : Bool
  pulsed : Bool
  flashReported : Bool
  ownFired : Bool
  returnKnown : Bool
  deriving DecidableEq, Repr

/-- TABLE 5-7. -/
inductive ClaimStatus where
  | none
  | queued
  | sent
  deriving DecidableEq, Repr

/-- TABLE 5-5. -/
inductive TrackState where
  | predicted
  | planned
  | armed
  | exposing
  deriving DecidableEq, Repr

/-- The track flags (TABLE 5-1), in the order of TABLE 12-1. -/
structure TrackFlags where
  noClaim : Bool
  glareRisk : Bool
  coLit : Bool
  coLitLost : Bool
  trimClamped : Bool
  coveragePartial : Bool
  unverified : Bool
  flashless : Bool
  blurLimit : Bool
  forced : Bool
  staleSource : Bool
  deriving DecidableEq, Repr

/-- The claim reference (TABLE 7-2). -/
structure ClaimReference where
  centre : Time
  n : Nat
  flash : Bool
  deriving DecidableEq, Repr

/-- TABLE 5-1, with the creation order of R82 (`created`, smaller is older) and the Claim Resolver's claim reference and
announced claim of the track (TABLE 7-2). -/
structure Track where
  id : Byte
  created : Nat
  side : Side
  sightings : List Sighting
  verify : Option VerifyEntry
  pred : Prediction
  planHorizon : Option Time
  missDeadline : Option Time
  armPoint : Option Time
  plan : Option Plan
  frames : List FrameEntry
  claimStatus : ClaimStatus
  residual : Option Int
  state : TrackState
  flags : TrackFlags
  reference : Option ClaimReference
  announced : Option Time
  deriving DecidableEq, Repr

/-- The head-track list, earliest t_pred first (R81). `nextCreated` is the model's own counter (DESIGN CHOICE, log 24). -/
structure Htk where
  tracks : List Track
  nextId : Byte
  nextCreated : Nat
  tooFar : Nat
  deriving DecidableEq, Repr

/-- The last-pulse record (R127): actual time and R. -/
structure Cpl where
  lastPulse : Option (Time × Nat)
  deriving DecidableEq, Repr

/-- TABLE 7-3. -/
structure NeighbourClaim where
  key : ClaimKey
  track : Nat
  flash : Bool
  centre : Time
  n : Nat
  s : Nat
  e : Nat
  tol : Nat
  flashed : List Nat
  join : Nat
  expiry : Time
  deriving DecidableEq, Repr

/-- The neighbour claim list. `nextJoin` is the model's own counter (DESIGN CHOICE, log 24). -/
structure Crs where
  claims : List NeighbourClaim
  nextJoin : Nat
  deriving DecidableEq, Repr

/-! ### Camera and Flash Drive Units (chapter 8) -/

/-- TABLE 8-3. -/
inductive CameraState where
  | booting
  | idle
  | ordered
  | busy
  | locked
  deriving DecidableEq, Repr

/-- One frame of an accepted burst. `overdue`: a trim moved its pulse to a time already reached (R160). -/
structure BurstFrame where
  index : Nat
  pulse : Time
  gain : Nat
  issued : Bool
  overdue : Bool
  outcome : Option CameraOutcome
  deriving DecidableEq, Repr

/-- 8.2. `trackId` is also the order key. -/
structure Burst where
  trackId : Byte
  format : Format
  top : Nat
  rows : Nat
  e : Nat
  n : Nat
  r : Nat
  frames : List BurstFrame
  orderEnd : Option Time
  deriving DecidableEq, Repr

/-- The outstanding frame (TABLE 8-2). -/
structure Outstanding where
  trackId : Byte
  frame : Nat
  pulse : Time
  earlyBound : Time
  readyDeadline : Time
  issuedLate : Bool
  deriving DecidableEq, Repr

/-- A message of the order line (R156): an exposure order or a withdrawal, its order key and its bytes (R201). -/
structure OrderMessage where
  isOrder : Bool
  key : Byte
  bytes : List Byte
  deriving DecidableEq, Repr

/-- TABLE 8-2. `orderLine` is absent when IDLE; else the message being sent and its end. -/
structure Cdu where
  state : CameraState
  timeouts : Nat
  bootDeadline : Option Time
  bursts : List Burst
  outstanding : Option Outstanding
  orderLine : Option (OrderMessage × Time)
  lineQueue : List OrderMessage
  triggerEnd : Option Time
  deriving DecidableEq, Repr

/-- TABLE 8-7. -/
inductive FlashState where
  | idle
  | locked
  deriving DecidableEq, Repr

/-- An awaited return (TABLE 8-7). -/
structure AwaitedReturn where
  trackId : Byte
  frame : Nat
  fired : Time
  deadline : Time
  deriving DecidableEq, Repr

/-- The flash plan of an accepted burst (R166). -/
structure FlashPlan where
  trackId : Byte
  e : Nat
  flashed : List Nat
  coLit : Option ClaimKey
  deriving DecidableEq, Repr

/-- A pending flash decision (R166), with what the flash plan says of its frame, kept when the plan leaves. -/
structure FlashDecision where
  trackId : Byte
  frame : Nat
  instant : Time
  e : Nat
  flashed : Bool
  coLit : Option ClaimKey
  deriving DecidableEq, Repr

/-- TABLE 8-7. `fireEnd` is present while FL_FIRE is active (R168). -/
structure Fdu where
  state : FlashState
  misfires : Nat
  lastPulse : Option Time
  awaited : List AwaitedReturn
  plans : List FlashPlan
  decisions : List FlashDecision
  fireEnd : Option Time
  deriving DecidableEq, Repr

/-! ### Record Queue and Service Port (chapter 9) -/

/-- Outcome of a track (R108). -/
inductive TrackOutcome where
  | captured
  | partialCapture
  | missed
  | dropped
  deriving DecidableEq, Repr

/-- Reason of an outcome (R108, TABLE 12-1). -/
inductive Reason where
  | none
  | late
  | camera
  | overlap
  | evicted
  | tooFar
  deriving DecidableEq, Repr

/-- Recorded outcome of a frame (TABLE 5-6). -/
inductive RecordedOutcome where
  | ok
  | readoutSuspect
  | late
  | timeout
  | cancelled
  | dark
  deriving DecidableEq, Repr

/-- A frame of a capture record (TABLE 5-8). -/
structure RecordFrame where
  index : Nat
  pulse : Time
  flash : FlashValue
  outcome : RecordedOutcome
  deriving DecidableEq, Repr

/-- The plan's part of a capture record (TABLE 5-8). -/
structure RecordPlan where
  format : Format
  top : Nat
  rows : Nat
  n : Nat
  s : Nat
  e : Nat
  sigma : Int
  deriving DecidableEq, Repr

/-- TABLE 5-8. -/
structure CaptureRecord where
  passage : BitVec 24
  track : Nat
  side : Side
  outcome : TrackOutcome
  reason : Reason
  basis : Basis
  sightings : List (Nat × Fin 2 × Byte)
  vg : Nat
  tPred : Time
  tol : Nat
  residual : Option Int
  plan : Option RecordPlan
  coLit : Option ClaimKey
  flags : TrackFlags
  frames : List RecordFrame
  deriving DecidableEq, Repr

/-- Direction of a SIGHTING record (R21). -/
inductive Direction where
  | approaching
  | departing
  | orphan
  deriving DecidableEq, Repr

/-- A SIGHTING record (TABLE 9-2). -/
structure SightingRecord where
  passage : BitVec 24
  pair : Fin 2
  direction : Direction
  t1 : Time
  t2v : Option (Time × Nat)
  band : Option (Nat × Nat)
  clamped : Bool
  partialHeight : Bool
  forced : Bool
  deriving DecidableEq, Repr

/-- TABLE 9-2. -/
inductive Record where
  | capture (r : CaptureRecord)
  | sighting (r : SightingRecord)
  deriving DecidableEq, Repr

/-- TABLE 9-6. -/
inductive Receiver where
  | idle
  | receiving
  | discarding
  deriving DecidableEq, Repr

/-- TABLE 9-1. `passage` is six BCD digits; bit i of `flags` is the i-th flag of TABLE 9-4; `inHand` is empty when no
command is in hand; `held` is the pending command; `reply` is present while the transmitter is SENDING. -/
structure Rqs where
  records : List Record
  passage : BitVec 24
  flags : BitVec 15
  receiver : Receiver
  inHand : List Byte
  gapDeadline : Option Time
  held : Option ServiceCommand
  reply : Option (List Byte)
  deriving DecidableEq, Repr

/-! ### Configuration Loader and Station Control (chapter 10) -/

/-- TABLE 10-3. -/
inductive StationState where
  | loading
  | configFault
  | listening
  | running
  | silent
  deriving DecidableEq, Repr

/-- TABLE 10-1. -/
inductive PageUsed where
  | none
  | station
  | common
  deriving DecidableEq, Repr

/-- TABLE 10-1. -/
inductive LoadStep where
  | straps
  | readStation
  | readCommon
  | done
  deriving DecidableEq, Repr

/-- TABLE 10-6. -/
inductive Indicator where
  | off
  | shortPulse
  | slowBlink
  | steady
  deriving DecidableEq, Repr

/-- TABLE 10-1. `reading` is present while CM_CS_N is active: the page number and the end of the read; `commonAt` is the
instant from which page 63 may be read (R191); `indActive` is the drive of IND. -/
structure Cfl where
  station : StationState
  number : Option Nat
  role : Option Role
  pageUsed : PageUsed
  loadStep : LoadStep
  image : Option Image
  reading : Option (Nat × Time)
  commonAt : Option Time
  listeningDeadline : Option Time
  indicator : Indicator
  indActive : Bool
  phaseDeadline : Option Time
  deriving DecidableEq, Repr

/-- Input levels other than the beams'. -/
structure Pins where
  rstActive : Bool
  stn : BitVec 5
  role : Role
  camRdy : Bool
  deriving DecidableEq, Repr

/-- The eleven blocks of TABLE 0-1, the station clock and the input pins. -/
structure Device where
  clock : Time
  pins : Pins
  cfl : Cfl
  ciu : Ciu
  liu : Liu
  fx : Fx
  ptb : Ptb
  htk : Htk
  cpl : Cpl
  crs : Crs
  cdu : Cdu
  fdu : Fdu
  rqs : Rqs
  deriving DecidableEq, Repr

/-- The part and the queue of the commands that are waiting, first in, first out. -/
structure State where
  dev : Device
  pending : List Instr
  deriving DecidableEq, Repr

/-- No command of the part stops it: no rule describes a stop (INVENTORY.md, Faults). The type has no constructor. -/
inductive Fault where
  deriving DecidableEq, Repr

/-- Why a command has no meaning in the model. -/
inductive Refusal where
  /-- Raised by an arm of `exec` whose command is not modelled; safe, for nothing is claimed of it. No arm raises it. -/
  | notModelled (mnemonic : String)
  deriving DecidableEq, Repr

/-! ### Reset values -/

/-- A beam with no level held against it (R24). -/
def Beam.reset (raw : Bool) : Beam :=
  { raw := raw, masked := false, stuckDeadline := none, unmaskDeadline := none, forceMask := false,
    forcePattern := false }

/-- R24. -/
def Curtain.reset (beams : Vector Beam 8) : Curtain :=
  { beams := beams, breakState := .clear, breakStart := none, validationDeadline := none, breakBeams := 0#8,
    breakMasked := 0#8, dead := false }

/-- R24. -/
def Sequencer.reset : Sequencer :=
  { state := .idle, t1 := none, t2 := none, orphanDeadline := none, expiryHeld := false, pendingOuter := none,
    forcedSeen := false, approachSeq := 0#8 }

/-- R24, with every beam input clear. -/
def Ciu.reset : Ciu :=
  { curtains := Vector.replicate 4 (Curtain.reset (Vector.replicate 8 (Beam.reset false))),
    pairs := Vector.replicate 2 Sequencer.reset }

/-- R37: NONE with no frame mark. -/
def Copy.fresh (jabbering : Bool) : Copy :=
  { progress := .none, matched := 0, mark := none, bits := [], noted := false, firstSeen := none, jabbered := jabbering }

/-- R45. -/
def PairState.reset : PairState :=
  { condition := .normal, activityStart := none, silenceFrom := none, readbackMatch := true, copy := Copy.fresh false,
    quality := 0 }

/-- R45. -/
def Liu.reset : Liu :=
  { busy := true, quietDeadline := none, pairA := PairState.reset, pairB := PairState.reset, transmitter := .empty,
    waitOrigin := none, slotEnd := none, frameInHand := none, collisions := 0, collided := none, driven := none,
    ownDrive := .nothing, preferred := .a }

/-- R63. -/
def Fx.reset : Fx := { queue := [], nextOrder := 0, presenceDeadline := none }

/-- R79. -/
def PeerEntry.absent : PeerEntry :=
  { state := .absent, role := none, period := none, lastPresence := none, staleDeadline := none, lostDeadline := none,
    marks := [], flashLockout := false, cameraLockout := false }

/-- R79. -/
def Ptb.reset : Ptb := { peers := Vector.replicate 31 PeerEntry.absent, verifyUp := none, verifyDown := none }

/-- R111. -/
def Htk.reset : Htk := { tracks := [], nextId := 0#8, nextCreated := 0, tooFar := 0 }

/-- R132. -/
def Cpl.reset : Cpl := { lastPulse := none }

/-- R152. -/
def Crs.reset : Crs := { claims := [], nextJoin := 0 }

/-- R173. -/
def Cdu.reset : Cdu :=
  { state := .booting, timeouts := 0, bootDeadline := none, bursts := [], outstanding := none, orderLine := none,
    lineQueue := [], triggerEnd := none }

/-- R173. -/
def Fdu.reset : Fdu :=
  { state := .idle, misfires := 0, lastPulse := none, awaited := [], plans := [], decisions := [], fireEnd := none }

/-- R188: everything but the passage number and the event flags, which the caller gives. -/
def Rqs.reset (passage : BitVec 24) (flags : BitVec 15) : Rqs :=
  { records := [], passage := passage, flags := flags, receiver := .idle, inHand := [], gapDeadline := none,
    held := none, reply := none }

/-- R189: LOADING with load step STRAPS, page used NONE, no station number, no role and no image. -/
def Cfl.reset : Cfl :=
  { station := .loading, number := none, role := none, pageUsed := .none, loadStep := .straps, image := none,
    reading := none, commonAt := none, listeningDeadline := none, indicator := .off, indActive := false,
    phaseDeadline := none }

/-- The part right after POWER_ON with the straps at station 1, CAMERA (DESIGN CHOICE, log 4): the station page's read
is under way (R190, R191), POWER_UP is latched (R188) and SHORT_PULSE has just started (R199). -/
def Device.reset : Device :=
  { clock := 0#32,
    pins := { rstActive := false, stn := 1#5, role := .camera, camRdy := false },
    cfl := { Cfl.reset with
      number := some 1, role := some .camera, loadStep := .readStation, reading := some (1, 2080#32),
      indicator := .shortPulse, indActive := true, phaseDeadline := some 100000#32 },
    ciu := Ciu.reset, liu := Liu.reset, fx := Fx.reset, ptb := Ptb.reset, htk := Htk.reset, cpl := Cpl.reset,
    crs := Crs.reset, cdu := Cdu.reset, fdu := Fdu.reset, rqs := Rqs.reset 0#24 1#15 }

/-- The machine right after reset, nothing waiting. -/
def State.reset : State := { dev := Device.reset, pending := [] }

end Sys2Proof.Machine
end

