-- ==== Sys2Proof/Machine/Ops.lean ====
section
/-! DEFINITION. Operations every block shares: local-time comparison (00_scope, Local Time), taking a command at its
instant, and reading and writing the parts of the state by number. -/

namespace Sys2Proof.Machine

/-! ### Local time -/

/-- The signed 32-bit difference a − b, in µs, whatever the distance of the two (DEDUCED, log 15). -/
def timeDiff (a b : Time) : Int := (a - b).toInt

/-- a is before b. -/
def isBefore (a b : Time) : Bool := decide (timeDiff a b < 0)

/-- a is after b. -/
def isAfter (a b : Time) : Bool := decide (0 < timeDiff a b)

/-- n µs after t. -/
def laterBy (t : Time) (n : Nat) : Time := t + BitVec.ofNat 32 n

/-- t moved by a signed number of µs. -/
def shiftBy (t : Time) (i : Int) : Time := t + BitVec.ofInt 32 i

/-- The later of two local times. -/
def laterOf (a b : Time) : Time := if isBefore a b then b else a

/-- A deadline that is present and not after `now`: it expires (DESIGN CHOICE, log 3). -/
def due (deadline : Option Time) (now : Time) : Bool :=
  match deadline with
  | some d => !isAfter d now
  | none => false

/-! ### Taking a command -/

/-- The clock moved on to the instant at which a command is taken; never back (DESIGN CHOICE, log 1). -/
def advanceTo (t : Time) (d : Device) : Device := if isAfter t d.clock then { d with clock := t } else d

/-- One idle microsecond of the station clock, which stands only while RST_N is active (R189, DESIGN CHOICE, log 2). -/
def tick (d : Device) : Device := if d.pins.rstActive then d else { d with clock := d.clock + 1#32 }

/-- `mapVec f v`: f on every element (written so that the kernel evaluates it). -/
def mapVec {α β : Type} {n : Nat} (f : α → β) (v : Vector α n) : Vector β n :=
  ⟨⟨v.toList.map f⟩, by simp⟩

/-! ### Station -/

/-- The blocks work: LISTENING, RUNNING or SILENT (R2, R25, R64, R80, R133, R153). -/
def stationWorks (d : Device) : Bool :=
  match d.cfl.station with
  | .listening => true
  | .running => true
  | .silent => true
  | .loading => false
  | .configFault => false

/-- The station is in the camera role. -/
def isCamera (d : Device) : Bool := d.cfl.role == some .camera

/-- The station works and is in the camera role. -/
def cameraWorks (d : Device) : Bool := stationWorks d && isCamera d

/-- The station number, 0 while there is none (R190). -/
def ownNumber (d : Device) : Nat := d.cfl.number.getD 0

/-- A curtain pair's configuration (TABLE 1-1). -/
def pairConfig (im : Image) (p : Fin 2) : PairConfig := if p = 0 then im.pair0 else im.pair1

/-- The configuration of a curtain pair when it is enabled. -/
def enabledPair (d : Device) (p : Fin 2) : Option PairConfig :=
  match d.cfl.image with
  | some im => if (pairConfig im p).enabled then some (pairConfig im p) else none
  | none => none

/-! ### Curtains -/

/-- The pair a curtain port belongs to (1.1). -/
def pairOf (c : Fin 4) : Fin 2 := if c.val < 2 then 0 else 1

/-- C0 and C2 are outer curtains. -/
def isOuter (c : Fin 4) : Bool := c.val % 2 == 0

/-- The outer curtain of a pair. -/
def outerOf (p : Fin 2) : Fin 4 := if p = 0 then 0 else 2

/-- The inner curtain of a pair. -/
def innerOf (p : Fin 2) : Fin 4 := if p = 0 then 1 else 3

/-- A curtain. -/
def curtain (d : Device) (c : Fin 4) : Curtain := d.ciu.curtains.get c

/-- A curtain replaced. -/
def setCurtain (c : Fin 4) (x : Curtain) (d : Device) : Device :=
  { d with ciu := { d.ciu with curtains := d.ciu.curtains.set c.val x c.isLt } }

/-- A pair's sequencer. -/
def sequencer (d : Device) (p : Fin 2) : Sequencer := d.ciu.pairs.get p

/-- A pair's sequencer replaced. -/
def setSequencer (p : Fin 2) (x : Sequencer) (d : Device) : Device :=
  { d with ciu := { d.ciu with pairs := d.ciu.pairs.set p.val x p.isLt } }

/-! ### Line pairs -/

/-- What the LIU holds of a line pair. -/
def linePair (d : Device) (p : LinePair) : PairState :=
  match p with
  | .a => d.liu.pairA
  | .b => d.liu.pairB

/-- What the LIU holds of a line pair, replaced. -/
def setLinePair (p : LinePair) (x : PairState) (d : Device) : Device :=
  match p with
  | .a => { d with liu := { d.liu with pairA := x } }
  | .b => { d with liu := { d.liu with pairB := x } }

/-- The other pair. -/
def otherPair : LinePair → LinePair
  | .a => .b
  | .b => .a

/-! ### Peers -/

/-- The entry of a station; ABSENT for a number that is no station's and for the station's own (R64). -/
def peer (d : Device) (p : Nat) : PeerEntry :=
  if h : 1 ≤ p ∧ p ≤ 31 then
    if p = ownNumber d then PeerEntry.absent else d.ptb.peers.get ⟨p - 1, by omega⟩
  else PeerEntry.absent

/-- The entry of a station replaced; the own number holds no entry (R64). -/
def setPeer (p : Nat) (x : PeerEntry) (d : Device) : Device :=
  if h : 1 ≤ p ∧ p ≤ 31 then
    if p = ownNumber d then d
    else { d with ptb := { d.ptb with peers := d.ptb.peers.set (p - 1) x (by omega) } }
  else d

/-! ### Head tracks -/

/-- The live track with an id. -/
def findTrack (d : Device) (id : Byte) : Option Track := d.htk.tracks.find? (fun tr => tr.id == id)

/-- The head-track list replaced. -/
def setTracks (l : List Track) (d : Device) : Device := { d with htk := { d.htk with tracks := l } }

/-- The live track with an id changed in its place. -/
def modifyTrack (id : Byte) (f : Track → Track) (d : Device) : Device :=
  setTracks (d.htk.tracks.map fun tr => if tr.id == id then f tr else tr) d

/-- R81: a stands ahead of b, by t_pred and then by age. -/
def aheadOf (a b : Track) : Bool :=
  isBefore a.pred.tPred b.pred.tPred || (a.pred.tPred == b.pred.tPred && decide (a.created < b.created))

/-- A track at the place its t_pred gives it (R81). -/
def insertTrack (tr : Track) : List Track → List Track
  | [] => [tr]
  | x :: rest => if aheadOf tr x then tr :: x :: rest else x :: insertTrack tr rest

/-- A track replaced by `tr` and moved to its new place (R81). -/
def placeTrack (tr : Track) (d : Device) : Device :=
  setTracks (insertTrack tr (d.htk.tracks.filter fun x => x.id != tr.id)) d

/-- The ids of the tracks in PLANNED, in list order. -/
def plannedIds (d : Device) : List Byte := (d.htk.tracks.filter fun tr => tr.state == .planned).map (·.id)

/-- f on the device once for each id, in order. -/
def forEach {α : Type} (ids : List α) (f : α → Device → Device) (d : Device) : Device :=
  ids.foldl (fun acc id => f id acc) d

end Sys2Proof.Machine
end

