-- ==== Sys2Proof/Machine/Flags.lean ====
section
/-! DEFINITION. Event flags and ATN (R176, R177), approach cover and SHORT_LEAD (R75 to R77), the status indicator
(R199), and the frame that every command but POWER_ON and RST_N_ASSERTED is taken in. -/

namespace Sys2Proof.Machine

/-! ### Event flags -/

/-- TABLE 9-4, in its order. -/
inductive EventFlag where
  | powerUp
  | restarted
  | configClamped
  | recordOverflow
  | beamMasked
  | beamUnmasked
  | curtainDead
  | peerNew
  | peerLost
  | lineSwitchover
  | lineContention
  | clash
  | cameraLockout
  | flashLockout
  | serviceError
  deriving DecidableEq, Repr

/-- The flag's bit in the two flag bytes (TABLE 12-1). -/
def flagBit : EventFlag → BitVec 15
  | .powerUp => 0x0001#15
  | .restarted => 0x0002#15
  | .configClamped => 0x0004#15
  | .recordOverflow => 0x0008#15
  | .beamMasked => 0x0010#15
  | .beamUnmasked => 0x0020#15
  | .curtainDead => 0x0040#15
  | .peerNew => 0x0080#15
  | .peerLost => 0x0100#15
  | .lineSwitchover => 0x0200#15
  | .lineContention => 0x0400#15
  | .clash => 0x0800#15
  | .cameraLockout => 0x1000#15
  | .flashLockout => 0x2000#15
  | .serviceError => 0x4000#15

/-- R176: a raised flag is latched; one already latched stays so. -/
def raise (f : EventFlag) (d : Device) : Device := { d with rqs := { d.rqs with flags := d.rqs.flags ||| flagBit f } }

/-- Whether a flag is latched. -/
def latched (d : Device) (f : EventFlag) : Bool := d.rqs.flags &&& flagBit f != 0#15

/-! ### Outputs worked out from the state -/

/-- ATN (R177); inactive while RST_N is active (R189). -/
def atn (d : Device) : Bool := !d.pins.rstActive && (!d.rqs.records.isEmpty || d.rqs.flags != 0#15)

/-- CAM_TRG (R159). -/
def camTrg (d : Device) : Bool := d.cdu.triggerEnd.isSome

/-- FL_FIRE (R168). -/
def flFire (d : Device) : Bool := d.fdu.fireEnd.isSome

/-- LA_EN and LB_EN (R26). -/
def lineEnabled (d : Device) : Bool := d.liu.driven.isSome

/-- The bit time that LA_TX and LB_TX carry in the present microsecond: the levels of its two halves, the same on both
pairs (R26, R200); none while no frame is driven. -/
def lineSent (d : Device) : Option (Bool × Bool) :=
  d.liu.driven.bind fun f => ((frameCodes f.body f.crc)[(d.clock - f.mark + 8#32).toNat]?).map codeLevels

/-- CM_CS_N active (R191). -/
def memorySelected (d : Device) : Bool := d.cfl.reading.isSome

/-- The read request of a page: 03h and the three-byte address of its first byte, n × 256 (R191, chapter 12, 12.3). -/
def readRequest (page : Nat) : List Byte := 0x03#8 :: bytesOf 3 (page * 256)

/-- What the part sends on CM_MOSI in the page read under way (R191). -/
def memoryRequest (d : Device) : Option (List Byte) := d.cfl.reading.map fun r => readRequest r.1

/-! ### Approach cover -/

/-- The own verify D of a side, when it is a verify side (R75). -/
def verifyD (d : Device) : Side → Option Nat
  | .up => d.ptb.verifyUp
  | .down => d.ptb.verifyDown

/-- R76: the entry is PRESENT, and the mark is on the own track and the side, not dead, and far enough out. -/
def countsForCover (ownTrack : Nat) (side : Side) (ownD : Nat) (m : Mark) : Bool :=
  m.track == ownTrack && m.side == side && !m.dead && decide (ownD + 10000 ≤ m.d)

/-- The approach cover of a side with own verify D `ownD` (R76). -/
def coverFrom (d : Device) (ownTrack : Nat) (side : Side) (ownD : Nat) : Nat :=
  ((List.range 31).map fun i =>
    let e := peer d (i + 1)
    if e.state == .present then (e.marks.filter (countsForCover ownTrack side ownD)).length else 0).sum

/-- The approach cover of a side; 0 for a side that is no verify side (R75, R76). -/
def approachCover (d : Device) (side : Side) : Nat :=
  match verifyD d side, d.cfl.image with
  | some ownD, some im => coverFrom d im.ownTrack side ownD
  | _, _ => 0

/-- R77: a verify side with cover 0. -/
def shortLead (d : Device) (side : Side) : Bool := (verifyD d side).isSome && approachCover d side == 0

/-! ### Indicator -/

/-- Any curtain of an enabled pair is DEAD (R11); curtains of a disabled pair never are (R2). -/
def anyDead (d : Device) : Bool := d.ciu.curtains.toList.any (·.dead)

/-- R199: the first pattern of TABLE 10-6 whose condition holds. -/
def indicatorPattern (d : Device) : Indicator :=
  if d.cfl.station = .configFault ∨ d.cfl.station = .silent then .steady
  else if d.cdu.state = .locked ∨ d.fdu.state = .locked then .slowBlink
  else if d.cfl.station = .loading ∨ d.cfl.station = .listening ∨ anyDead d ∨ shortLead d .up ∨ shortLead d .down then
    .shortPulse
  else .off

/-- The length of the active and of the inactive part of a blinking pattern, µs (TABLE 10-6). -/
def phaseLength (p : Indicator) (active : Bool) : Option Nat :=
  match p, active with
  | .slowBlink, _ => some 500000
  | .shortPulse, true => some 100000
  | .shortPulse, false => some 900000
  | .steady, _ => none
  | .off, _ => none

/-- A pattern started: its drive, and for a blinking pattern the end of its active part (R199). -/
def startPattern (p : Indicator) (d : Device) : Device :=
  { d with cfl := { d.cfl with
      indicator := p, indActive := p != .off, phaseDeadline := (phaseLength p true).map (laterBy d.clock) } }

/-- R199: the pattern worked out again; the same pattern keeps its phase. -/
def refreshIndicator (d : Device) : Device :=
  if indicatorPattern d = d.cfl.indicator then d else startPattern (indicatorPattern d) d

/-! ### Taking a command -/

/-- A command taken at local time t: nothing while RST_N is active (R189); else the clock stands at t (DESIGN CHOICE, log 1), the
effect `f` comes about, and the indicator follows the conditions as they stand after it (R199; worked out once a
command: DESIGN CHOICE, log 37). -/
def taken (t : Time) (f : Device → Device) (s : State) : Host.Outcome State Fault Refusal :=
  .next { s with dev := if s.dev.pins.rstActive then s.dev else refreshIndicator (f (advanceTo t s.dev)) }

end Sys2Proof.Machine
end

