-- ==== Sys2Proof/Machine/Operands.lean ====
section
/-! DEFINITION. The byte layouts of chapter 12: codes (TABLE 12-1), line frames read and written (R60, R200, TABLE 12-2),
and records (TABLE 12-5). -/

namespace Sys2Proof.Machine

/-! ### Codes (TABLE 12-1) -/

def roleCode : Role → Byte
  | .camera => 0#8
  | .approach => 1#8

def sideCode : Side → Byte
  | .up => 0#8
  | .down => 1#8

def peerStateCode : PeerState → Byte
  | .absent => 0#8
  | .present => 1#8
  | .stale => 2#8
  | .lost => 3#8

def stationStateCode : StationState → Byte
  | .loading => 0#8
  | .configFault => 1#8
  | .listening => 2#8
  | .running => 3#8
  | .silent => 4#8

def pageUsedCode : PageUsed → Byte
  | .none => 0#8
  | .station => 1#8
  | .common => 2#8

def indicatorCode : Indicator → Byte
  | .off => 0#8
  | .shortPulse => 1#8
  | .slowBlink => 2#8
  | .steady => 3#8

def cameraStateCode : CameraState → Byte
  | .booting => 0#8
  | .idle => 1#8
  | .ordered => 2#8
  | .busy => 3#8
  | .locked => 4#8

def flashStateCode : FlashState → Byte
  | .idle => 0#8
  | .locked => 1#8

def trackStateCode : TrackState → Byte
  | .predicted => 0#8
  | .planned => 1#8
  | .armed => 2#8
  | .exposing => 3#8

def basisCode : Basis → Byte
  | .oneMark => 0#8
  | .twoMark => 1#8
  | .verified => 2#8
  | .verifyOnly => 3#8

def claimStatusCode : ClaimStatus → Byte
  | .none => 0#8
  | .queued => 1#8
  | .sent => 2#8

def outcomeCode : TrackOutcome → Byte
  | .captured => 0#8
  | .partialCapture => 1#8
  | .missed => 2#8
  | .dropped => 3#8

def reasonCode : Reason → Byte
  | .none => 0#8
  | .late => 1#8
  | .camera => 2#8
  | .overlap => 3#8
  | .evicted => 4#8
  | .tooFar => 5#8

def directionCode : Direction → Byte
  | .approaching => 0#8
  | .departing => 1#8
  | .orphan => 2#8

def formatCode : Format → Byte
  | .full => 0#8
  | .strip => 1#8

def flashValueCode : FlashValue → Byte
  | .own => 0#8
  | .coLit => 1#8
  | .none => 2#8

def recordedOutcomeCode : RecordedOutcome → Byte
  | .ok => 0#8
  | .readoutSuspect => 1#8
  | .late => 2#8
  | .timeout => 3#8
  | .cancelled => 4#8
  | .dark => 5#8

/-- The track flags in their order, bit 0 first. -/
def flagList (f : TrackFlags) : List Bool :=
  [f.noClaim, f.glareRisk, f.coLit, f.coLitLost, f.trimClamped, f.coveragePartial, f.unverified, f.flashless,
    f.blurLimit, f.forced, f.staleSource]

/-- A number whose bits are the given ones, bit 0 first. -/
def numberOfBits (bits : List Bool) : Nat := bits.foldr (fun b n => 2 * n + b.toNat) 0

/-- The two bytes of the track flags; bits 11 to 15 are 0. -/
def flagBytes (f : TrackFlags) : List Byte := bytesOf 2 (numberOfBits (flagList f))

/-- The bits a layout names in a flags byte, bit 0 first; the rest are the free value of that place (log 14). -/
def namedBits (place : Nat) (bits : List Bool) : Byte :=
  withSpare place (byteOf (2 ^ bits.length - 1)) (byteOf (numberOfBits bits))

/-! ### Places of bytes whose other bits are left open (log 14) -/

def placePresenceLockouts : Nat := 0
def placeSightingFrame : Nat := 1
def placeClaimFlags : Nat := 2
def placePeerLockouts : Nat := 3
def placeDeadFlags : Nat := 4
def placeSideUp : Nat := 5
def placeSideDown : Nat := 6
def placeRecordPresence : Nat := 7
def placeRecordFlags : Nat := 8

/-! ### Line frames sent (TABLE 12-2) -/

/-- Kind codes. -/
def kindPresence : Byte := 0x31#8
def kindSighting : Byte := 0x32#8
def kindClaim : Byte := 0x33#8
def kindRelease : Byte := 0x34#8

/-- A mark as a PRESENCE carries it. -/
def markBytes (m : Mark) : List Byte :=
  [byteOf m.pair.val, byteOf m.track, sideCode m.side] ++ bytesOf 3 m.d ++ bytesOf 2 m.b ++ [boolByte m.dead]

/-- A PRESENCE body. -/
def presenceBody (station : Nat) (role : Role) (period : Nat) (flashLockout cameraLockout : Bool) (marks : List Mark) :
    List Byte :=
  [kindPresence, byteOf station, roleCode role] ++ bytesOf 2 period
    ++ [namedBits placePresenceLockouts [flashLockout, cameraLockout], byteOf marks.length] ++ marks.flatMap markBytes

/-- A height band as two numbers, 0 and 0 when absent (R47). -/
def bandBytes (band : Option (Nat × Nat)) : List Byte :=
  bytesOf 2 (band.elim 0 (·.1)) ++ bytesOf 2 (band.elim 0 (·.2))

/-- A SIGHTING body with the age fixed for its own frame mark (R47). -/
def sightingBody (station : Nat) (c : SightingContents) (age : Nat) : List Byte :=
  [kindSighting, byteOf station, byteOf c.pair.val, byteOf c.track, c.seq] ++ bytesOf 2 age ++ bytesOf 3 c.v
    ++ bandBytes c.band ++ [namedBits placeSightingFrame [c.clamped, c.partialHeight, c.forced]]

/-- The four index slots of a CLAIM: those beyond the flashed count are FF (R200). -/
def claimSlots (flashed : List Nat) : List Byte :=
  ((flashed.map byteOf) ++ List.replicate 4 0xFF#8).take 4

/-- A CLAIM body with the lead fixed for its own frame mark (R48). -/
def claimBody (station : Nat) (c : ClaimContents) (lead : Nat) : List Byte :=
  [kindClaim, byteOf station, c.trackId, byteOf c.track, namedBits placeClaimFlags [!c.flashed.isEmpty], byteOf c.n,
    byteOf c.flashed.length] ++ claimSlots c.flashed ++ bytesOf 4 lead ++ bytesOf 4 c.s ++ bytesOf 4 c.e ++ bytesOf 4 c.tol

/-- A RELEASE body. -/
def releaseBody (station : Nat) (id : Byte) : List Byte := [kindRelease, byteOf station, id]

/-! ### Line frames received -/

/-- A PRESENCE as received. -/
structure PresenceFrame where
  role : Role
  period : Nat
  flashLockout : Bool
  cameraLockout : Bool
  marks : List Mark
  deriving DecidableEq, Repr

/-- A SIGHTING as received. -/
structure SightingFrame where
  pair : Fin 2
  track : Nat
  seq : Byte
  age : Nat
  v : Nat
  band : Option (Nat × Nat)
  clamped : Bool
  partialHeight : Bool
  forced : Bool
  deriving DecidableEq, Repr

/-- A CLAIM as received. -/
structure ClaimFrame where
  trackId : Byte
  track : Nat
  flash : Bool
  n : Nat
  flashed : List Nat
  lead : Nat
  s : Nat
  e : Nat
  tol : Nat
  deriving DecidableEq, Repr

/-- A frame whose fields have passed R60. -/
inductive ReceivedFrame where
  | presence (f : PresenceFrame)
  | sighting (f : SightingFrame)
  | claim (f : ClaimFrame)
  | release (trackId : Byte)
  deriving DecidableEq, Repr

/-- The byte at a place, 0 beyond the end. -/
def byteAt (body : List Byte) (i : Nat) : Byte := body.getD i 0#8

/-- R38, R200: the kind is known, the body length agrees with it and with the counts the body carries, and the station
number is 1 to 31. -/
def bodyAgrees (body : List Byte) : Bool :=
  decide (1 ≤ (byteAt body 1).toNat) && decide ((byteAt body 1).toNat ≤ 31) &&
  (if byteAt body 0 = kindPresence then
    decide ((byteAt body 6).toNat ≤ 2) && body.length == 7 + 9 * (byteAt body 6).toNat
  else if byteAt body 0 = kindSighting then body.length == 15
  else if byteAt body 0 = kindClaim then
    body.length == 27 && decide ((byteAt body 6).toNat ≤ 4)
      && (byteAt body 4).getLsbD 0 == decide ((byteAt body 6).toNat ≠ 0)
  else if byteAt body 0 = kindRelease then body.length == 3
  else false)

/-- One mark entry of a PRESENCE, refused when a field is out of range (R60). -/
def readMark (m : List Byte) : Option Mark :=
  let pair := (byteAt m 0).toNat
  let track := (byteAt m 1).toNat
  let side := (byteAt m 2).toNat
  let d := numberAt m 3 3
  let b := numberAt m 6 2
  let dead := (byteAt m 8).toNat
  if h : pair < 2 then
    if 1 ≤ track ∧ track ≤ 4 ∧ side ≤ 1 ∧ 500 ≤ d ∧ d ≤ 1000000 ∧ 1000 ≤ b ∧ b ≤ 4000 ∧ dead ≤ 1 then
      some { pair := ⟨pair, h⟩, track := track, side := if side = 0 then .up else .down, d := d, b := b,
             dead := dead == 1 }
    else none
  else none

/-- The marks list of a PRESENCE in ascending pair index (TABLE 4-1, DEDUCED, log 27), refused when two entries carry the same pair
index (R60). -/
def readMarks (body : List Byte) : Option (List Mark) :=
  match (byteAt body 6).toNat with
  | 0 => some []
  | 1 => (readMark (body.drop 7)).map fun m => [m]
  | _ =>
    match readMark (body.drop 7), readMark (body.drop 16) with
    | some m, some m' => if m.pair = m'.pair then none else if m.pair = 0 then some [m, m'] else some [m', m]
    | _, _ => none

/-- R60, PRESENCE. -/
def readPresence (body : List Byte) : Option PresenceFrame :=
  let role := (byteAt body 2).toNat
  let period := numberAt body 3 2
  if role ≤ 1 ∧ 50 ≤ period ∧ period ≤ 1000 then
    (readMarks body).map fun marks =>
      { role := if role = 0 then .camera else .approach, period := period,
        flashLockout := (byteAt body 5).getLsbD 0, cameraLockout := (byteAt body 5).getLsbD 1, marks := marks }
  else none

/-- R60, SIGHTING. -/
def readSighting (body : List Byte) : Option SightingFrame :=
  let pair := (byteAt body 2).toNat
  let track := (byteAt body 3).toNat
  let v := numberAt body 7 3
  let low := numberAt body 10 2
  let high := numberAt body 12 2
  let flags := byteAt body 14
  if h : pair < 2 then
    if 1 ≤ track ∧ track ≤ 4 ∧ 500 ≤ v ∧ v ≤ 120000 ∧ (low = 0 ↔ high = 0) ∧ low ≤ high ∧ high ≤ 8000 then
      some { pair := ⟨pair, h⟩, track := track, seq := byteAt body 4, age := numberAt body 5 2, v := v,
             band := if low = 0 then none else some (low, high), clamped := flags.getLsbD 0,
             partialHeight := flags.getLsbD 1, forced := flags.getLsbD 2 }
    else none
  else none

/-- The indices are each below n and in strictly ascending order (R60). -/
def ascendingBelow (n : Nat) : List Nat → Bool
  | [] => true
  | [k] => decide (k < n)
  | k :: k' :: rest => decide (k < k') && ascendingBelow n (k' :: rest)

/-- R60, CLAIM. -/
def readClaim (body : List Byte) : Option ClaimFrame :=
  let track := (byteAt body 3).toNat
  let n := (byteAt body 5).toNat
  let flashed := ((body.drop 7).take (byteAt body 6).toNat).map (·.toNat)
  let lead := numberAt body 11 4
  let s := numberAt body 15 4
  let e := numberAt body 19 4
  let tol := numberAt body 23 4
  if 1 ≤ track ∧ track ≤ 4 ∧ 1 ≤ n ∧ n ≤ 4 ∧ s % 2 = 0 ∧ 2 ≤ s ∧ s ≤ 4000000 ∧ 2 ≤ e ∧ e ≤ 2000 ∧ 50 ≤ tol
      ∧ tol ≤ 187900 ∧ lead ≤ 4000000 ∧ ascendingBelow n flashed = true then
    some { trackId := byteAt body 2, track := track, flash := !flashed.isEmpty, n := n, flashed := flashed, lead := lead,
           s := s, e := e, tol := tol }
  else none

/-- A body that agrees (R38), read under R60; none is a frame discarded whole. -/
def readFrame (body : List Byte) : Option ReceivedFrame :=
  if byteAt body 0 = kindPresence then (readPresence body).map .presence
  else if byteAt body 0 = kindSighting then (readSighting body).map .sighting
  else if byteAt body 0 = kindClaim then (readClaim body).map .claim
  else if byteAt body 0 = kindRelease then some (.release (byteAt body 2))
  else none

/-- The sending station of a body. -/
def frameStation (body : List Byte) : Nat := (byteAt body 1).toNat

/-! ### Records (TABLE 12-5) -/

/-- The plan part of a CAPTURE record: the presence byte, then zeros when it is absent. -/
def recordPlanBytes (p : Option RecordPlan) : List Byte :=
  match p with
  | some p => [1#8, formatCode p.format] ++ bytesOf 2 p.top ++ bytesOf 2 p.rows ++ [byteOf p.n] ++ bytesOf 4 p.s
      ++ bytesOf 2 p.e ++ signedBytes 4 p.sigma
  | none => List.replicate 17 0#8

/-- The co-lit source of a CAPTURE record. -/
def coLitBytes (k : Option ClaimKey) : List Byte :=
  match k with
  | some k => [1#8, byteOf k.station, k.trackId]
  | none => [0#8, 0#8, 0#8]

/-- The residual of a CAPTURE record. -/
def residualBytes (r : Option Int) : List Byte :=
  match r with
  | some r => 1#8 :: signedBytes 4 r
  | none => List.replicate 5 0#8

/-- One frame of a CAPTURE record. -/
def recordFrameBytes (f : RecordFrame) : List Byte :=
  [byteOf f.index] ++ timeBytes f.pulse ++ [flashValueCode f.flash, recordedOutcomeCode f.outcome]

/-- A CAPTURE record. -/
def captureBytes (r : CaptureRecord) : List Byte :=
  [1#8] ++ bytesOf 3 r.passage.toNat
    ++ [byteOf r.track, sideCode r.side, outcomeCode r.outcome, reasonCode r.reason, basisCode r.basis,
        byteOf r.sightings.length]
    ++ r.sightings.flatMap (fun x => [byteOf x.1, byteOf x.2.1.val, x.2.2])
    ++ bytesOf 4 r.vg ++ timeBytes r.tPred ++ bytesOf 4 r.tol ++ residualBytes r.residual ++ recordPlanBytes r.plan
    ++ coLitBytes r.coLit ++ flagBytes r.flags ++ [byteOf r.frames.length] ++ r.frames.flatMap recordFrameBytes

/-- A SIGHTING record. -/
def sightingRecordBytes (r : SightingRecord) : List Byte :=
  [2#8] ++ bytesOf 3 r.passage.toNat ++ [byteOf r.pair.val, directionCode r.direction] ++ timeBytes r.t1
    ++ [namedBits placeRecordPresence [r.t2v.isSome, r.band.isSome]]
    ++ timeBytes (r.t2v.elim 0#32 (·.1)) ++ bytesOf 3 (r.t2v.elim 0 (·.2)) ++ bandBytes r.band
    ++ [namedBits placeRecordFlags [r.clamped, r.partialHeight, r.forced]]

/-- A record's layout. -/
def recordBytes : Record → List Byte
  | .capture r => captureBytes r
  | .sighting r => sightingRecordBytes r

end Sys2Proof.Machine
end

