-- ==== Sys2Proof/Machine/Records.lean ====
section
/-! DEFINITION. The record queue and the passage number (R174, R175). -/

namespace Sys2Proof.Machine

/-- A record offered with the passage number held: it joins the queue, or is discarded with RECORD_OVERFLOW when the
queue holds 32 (R174). -/
def joinRecords (r : Record) (d : Device) : Device :=
  if d.rqs.records.length < 32 then { d with rqs := { d.rqs with records := d.rqs.records ++ [r] } }
  else raise .recordOverflow d

/-- A record offered (R174, R175): `advance` says whether the passage number is advanced first; the record carries the
number then held. -/
def offerRecord (advance : Bool) (make : BitVec 24 → Record) (d : Device) : Device :=
  let p := if advance then bcdSucc d.rqs.passage else d.rqs.passage
  joinRecords (make p) { d with rqs := { d.rqs with passage := p } }

/-- A CAPTURE record offered: CAPTURED and PARTIAL advance the number (TABLE 9-3). -/
def offerCapture (r : CaptureRecord) (d : Device) : Device :=
  offerRecord (r.outcome == .captured || r.outcome == .partialCapture) (fun p => .capture { r with passage := p }) d

/-- A SIGHTING record offered: APPROACHING advances the number (TABLE 9-3). -/
def offerSighting (r : SightingRecord) (d : Device) : Device :=
  offerRecord (r.direction == .approaching) (fun p => .sighting { r with passage := p }) d

end Sys2Proof.Machine
end

