-- ==== Sys2Proof/Machine/Exchange.lean ====
section
/-! DEFINITION. Frame Exchange's outbound queue and the transmitter that follows its head (chapter 3, 3.1 to 3.3;
chapter 2, 2.3): what a request, a removal and a replacement do. Reports to the Head Tracker are given back to the
caller, which hands them on (Tracks.lean). -/

namespace Sys2Proof.Machine

/-- The class of a kind (TABLE 3-1). -/
def classOf : Outbound → Nat
  | .claim _ => 0
  | .release _ => 0
  | .sighting _ => 1
  | .presence => 2

/-- The expiry deadline of an entry (R51, R52): t2 + 65,528 for a SIGHTING, burst centre − 7 for a CLAIM. -/
def expiryOf : Outbound → Option Time
  | .sighting c => some (laterBy c.t2 65528)
  | .claim c => some (shiftBy c.centre (-7))
  | .presence => none
  | .release _ => none

/-- The wait of a class at a station (2.3). -/
def deferralWait (cls station : Nat) : Nat := (cls * 32 + station) * 5

/-! ### The transmitter follows the queue (R29) -/

/-- The slot end for the head of the queue, reckoned from a wait origin (R29). -/
def slotEndFrom (d : Device) (origin : Time) : Option Time :=
  d.fx.queue.head?.map fun e => laterBy origin (deferralWait (classOf e.out) (ownNumber d))

/-- The transmitter in EMPTY, wait origin and slot end removed (R29). -/
def transmitterEmpty (d : Device) : Device :=
  { d with liu := { d.liu with transmitter := .empty, waitOrigin := none, slotEnd := none } }

/-- The transmitter in WAIT_IDLE (R29, R30). -/
def transmitterWaits (d : Device) : Device :=
  { d with liu := { d.liu with transmitter := .waitIdle, waitOrigin := none, slotEnd := none } }

/-- The transmitter in DEFER with the present instant as wait origin (R29). -/
def transmitterDefers (d : Device) : Device :=
  { d with liu := { d.liu with transmitter := .defer, waitOrigin := some d.clock, slotEnd := slotEndFrom d d.clock } }

/-- R34: the collision count does not outlive the collided frame's stay in the queue. -/
def forgetCollided (d : Device) : Device :=
  match d.liu.collided with
  | none => d
  | some o =>
    if d.fx.queue.any (fun e => e.order == o) then d
    else { d with liu := { d.liu with collisions := 0, collided := none } }

/-- After any change of the queue the transmitter works out its state and slot end again (R29, R49). -/
def followQueue (d : Device) : Device :=
  match d.liu.transmitter with
  | .empty =>
    if d.fx.queue.isEmpty || d.cfl.station != .running then d
    else if d.liu.busy then transmitterWaits d else transmitterDefers d
  | .waitIdle => if d.fx.queue.isEmpty then transmitterEmpty d else d
  | .defer =>
    if d.fx.queue.isEmpty then transmitterEmpty d
    else { d with liu := { d.liu with slotEnd := d.liu.waitOrigin.bind (slotEndFrom d) } }
  | .send => d

/-- A change of the outbound queue with its effect on the LIU. -/
def setQueue (q : List QueueEntry) (d : Device) : Device :=
  followQueue (forgetCollided { d with fx := { d.fx with queue := q } })

/-- The entry with a queuing order removed. -/
def removeEntry (order : Nat) (d : Device) : Device :=
  setQueue (d.fx.queue.filter fun e => e.order != order) d

/-- The entry with a queuing order changed in its place. -/
def modifyEntry (order : Nat) (f : QueueEntry → QueueEntry) (d : Device) : Device :=
  setQueue (d.fx.queue.map fun e => if e.order == order then f e else e) d

/-- The entry with a queuing order. -/
def findEntry (d : Device) (order : Nat) : Option QueueEntry := d.fx.queue.find? (fun e => e.order == order)

/-! ### Joining (R49, R54) -/

/-- An entry behind all of its class and of the classes before it (R49). -/
def joinByClass (e : QueueEntry) (q : List QueueEntry) : List QueueEntry :=
  q.takeWhile (fun x => decide (classOf x.out ≤ classOf e.out)) ++ e
    :: q.dropWhile (fun x => decide (classOf x.out ≤ classOf e.out))

/-- The victim for a newcomer of a class: of the entries of a higher class number not on the line, the one with the
highest class number and, within it, the latest (R54). The queue is in order of class and queuing order, so that is the
last of them. -/
def victimFor (cls : Nat) (q : List QueueEntry) : Option QueueEntry :=
  (q.filter fun e => decide (cls < classOf e.out) && !e.onLine).getLast?

/-- A new entry joins, evicting where R54 says so; false when it is dropped. -/
def joinQueue (out : Outbound) (d : Device) : Device × Bool :=
  let e : QueueEntry := { order := d.fx.nextOrder, out := out, onLine := false, revision := none, withdrawn := false }
  let d' := { d with fx := { d.fx with nextOrder := d.fx.nextOrder + 1 } }
  if d.fx.queue.length < 8 then (setQueue (joinByClass e d.fx.queue) d', true)
  else
    match victimFor (classOf out) d.fx.queue with
    | some v => (setQueue (joinByClass e (d.fx.queue.filter fun x => x.order != v.order)) d', true)
    | none => (d, false)

/-! ### Requests (R50 to R53, R58) -/

/-- R34: the frame that an entry off the line held is superseded, and its collision count is not passed on to what
replaces it; the count of a frame whose revision was held while it was on the line goes on (R57; DEDUCED, log 30). -/
def supersede (order : Nat) (d : Device) : Device :=
  if d.liu.collided = some order then { d with liu := { d.liu with collisions := 0, collided := none } } else d

/-- A PRESENCE request in RUNNING: a queued one is replaced in its place when off the line, and absorbs the request when
on it (R51). -/
def requestPresence (d : Device) : Device :=
  if d.cfl.station = .running then
    match d.fx.queue.find? (fun e => e.out == .presence) with
    | some e => if e.onLine then d else supersede e.order d
    | none => (joinQueue .presence d).1
  else d

/-- A SIGHTING request (R50, R51). -/
def requestSighting (c : SightingContents) (d : Device) : Device :=
  if d.cfl.station = .running then (joinQueue (.sighting c) d).1 else d

/-- What becomes of a claim request. -/
inductive ClaimResult where
  | taken
  | refused
  | dropped
  deriving DecidableEq, Repr

/-- An entry is a CLAIM for a track id. -/
def claimsTrack (id : Byte) (e : QueueEntry) : Bool :=
  match e.out with
  | .claim c => c.trackId == id
  | _ => false

/-- The sent-before mark of a CLAIM entry. -/
def sentBefore (e : QueueEntry) : Bool :=
  match e.out with
  | .claim c => c.sentBefore
  | _ => false

/-- A CLAIM entry taking revised contents, its queuing order kept; its sent-before mark stays once it is yes (R52,
DEDUCED, log 20). What this does to a collision count is `supersede`'s (log 30). -/
def reviseEntry (c : ClaimContents) (e : QueueEntry) : QueueEntry :=
  { e with out := .claim { c with sentBefore := c.sentBefore || sentBefore e }, revision := none }

/-- A CLAIM request (R50, R52). -/
def requestClaim (c : ClaimContents) (d : Device) : Device × ClaimResult :=
  if d.cfl.station ≠ .running then (d, .refused)
  else
    match d.fx.queue.find? (claimsTrack c.trackId) with
    | some e =>
      if e.onLine then (modifyEntry e.order (fun x => { x with revision := some c }) d, .taken)
      else (modifyEntry e.order (reviseEntry c) (supersede e.order d), .taken)
    | none =>
      let r := joinQueue (.claim c) d
      (r.1, if r.2 then .taken else .dropped)

/-- A RELEASE request (R50, R53). A CLAIM sent before is removed, and its RELEASE then joins: a queue that held nothing
else is empty in between, and a transmitter in DEFER counts its wait from this instant (DESIGN CHOICE, log 31). -/
def requestRelease (id : Byte) (d : Device) : Device :=
  if d.cfl.station ≠ .running then d
  else
    match d.fx.queue.find? (claimsTrack id) with
    | some e =>
      if e.onLine then
        (joinQueue (.release id) (modifyEntry e.order (fun x => { x with withdrawn := true, revision := none }) d)).1
      else if sentBefore e then (joinQueue (.release id) (removeEntry e.order d)).1
      else removeEntry e.order d
    | none => (joinQueue (.release id) d).1

/-! ### Fixing a frame at a slot end (R46 to R48, R56) -/

/-- Why a CLAIM is reported dropped to the Head Tracker (R54 to R57, R59). -/
inductive DropReason where
  | evicted
  | expired
  | outOfRange
  | contention
  | flushed
  deriving DecidableEq, Repr

/-- A curtain pair as its own PRESENCE announces it (R46). -/
def ownMark (d : Device) (p : Fin 2) : Option Mark :=
  (enabledPair d p).map fun pc =>
    { pair := p, track := pc.track, side := pc.side, d := pc.d, b := pc.b,
      dead := (curtain d (outerOf p)).dead || (curtain d (innerOf p)).dead }

/-- The fields of a PRESENCE as they stand now (R46). -/
def ownPresenceBody (d : Device) : List Byte :=
  presenceBody (ownNumber d) (d.cfl.role.getD .camera) (d.cfl.image.elim 0 (·.presencePeriod))
    (d.fdu.state == .locked) (d.cdu.state == .locked) ([0, 1].filterMap (ownMark d))

/-- What Frame Exchange answers to the LIU at a slot end. -/
inductive Supply where
  | supplied (body : List Byte)
  | dropped (report : Option DropReason)
  deriving DecidableEq, Repr

/-- R56: the head entry fixed for an own frame mark, or dropped. The age of a SIGHTING is counted without sign, for no t2
lies ahead of the mark and one may lie more than 2^31 µs behind it (R7). -/
def fixFrame (d : Device) (mark : Time) (out : Outbound) : Supply :=
  match out with
  | .presence => .supplied (ownPresenceBody d)
  | .sighting c =>
    if 65535 < (mark - c.t2).toNat then .dropped none
    else .supplied (sightingBody (ownNumber d) c (mark - c.t2).toNat)
  | .claim c =>
    if timeDiff c.centre mark < 0 then .dropped (some .expired)
    else if 4000000 < timeDiff c.centre mark then .dropped (some .outOfRange)
    else .supplied (claimBody (ownNumber d) c (timeDiff c.centre mark).toNat)
  | .release id => .supplied (releaseBody (ownNumber d) id)

end Sys2Proof.Machine
end

