-- ==== Sys2Proof/Machine/Camera.lean ====
section
/-! DEFINITION. The Camera Drive Unit's burst list, exposure orders and order line (chapter 8, 8.2 to 8.4; TABLE 12-6). -/

namespace Sys2Proof.Machine

/-! ### Captions (R157, R158) -/

/-- The glyph height of an item: 8, 12, 16 or 24 rows, plus 8 × the glyph add. -/
def glyphHeight (c : CaptionItem) : Nat :=
  (match c.glyphSize with
    | 0 => 8
    | 1 => 12
    | 2 => 16
    | _ => 24) + 8 * c.glyphAdd

/-- The item's row after the moves of R158; none when it is left out of a STRIP order. -/
def captionRow (format : Format) (rows : Nat) (c : CaptionItem) : Option Nat :=
  match format with
  | .full => some (if 2048 < c.fullRow + glyphHeight c then 2048 - glyphHeight c else c.fullRow)
  | .strip =>
    if rows < glyphHeight c then none
    else some (if rows < c.stripRow + glyphHeight c then rows - glyphHeight c else c.stripRow)

/-- The item's column, sent unchanged (R158). -/
def captionColumn (format : Format) (c : CaptionItem) : Nat :=
  match format with
  | .full => c.fullColumn
  | .strip => c.stripColumn

/-- The three-letter codes of the track flags, in the order of TABLE 12-1: NCL, GLR, COL, CLL, TRC, CVP, UNV, FLS, BLR,
FRC, STS. -/
def flagCodes : List (List Byte) :=
  [[0x4E, 0x43, 0x4C], [0x47, 0x4C, 0x52], [0x43, 0x4F, 0x4C], [0x43, 0x4C, 0x4C], [0x54, 0x52, 0x43],
    [0x43, 0x56, 0x50], [0x55, 0x4E, 0x56], [0x46, 0x4C, 0x53], [0x42, 0x4C, 0x52], [0x46, 0x52, 0x43],
    [0x53, 0x54, 0x53]]

/-- FLAGS: the codes of the flags that are yes, separated by single spaces. -/
def flagsCaption (f : TrackFlags) : List Byte :=
  ((((flagList f).zip flagCodes).filter (·.1)).map (·.2)).intersperse [0x20#8] |>.flatten

/-- The characters of UP and DOWN. -/
def sideChars : Side → List Byte
  | .up => [0x55, 0x50]
  | .down => [0x44, 0x4F, 0x57, 0x4E]

/-- What the six items carry, in the order of TABLE 8-5: PASSAGE, TRACK_DIR, SPEED, HEAD, FRAME, FLAGS (R157); the
characters are ASCII, here and in the codes (PRESUMED, log 38). -/
def captionValues (passage : BitVec 24) (ownTrack n : Nat) (tr : Track) : List (List Byte) :=
  [ passageChars passage,
    [0x54#8, digitChar ownTrack, 0x20#8] ++ sideChars tr.side,
    threeDigits (roundNat (tr.pred.vg * 36) 10000) ++ [0x20, 0x4B, 0x4D, 0x2F, 0x48],
    match tr.sightings.getLast? with
      | some sg => 0x48#8 :: threeDigits sg.seq.toNat
      | none => [],
    [digitChar n],
    flagsCaption tr.flags ]

/-- One item placed in the order, when its enable set holds the own track and R158 does not leave it out. -/
def captionBytes (ownTrack : Nat) (format : Format) (rows : Nat) (x : Nat × CaptionItem × List Byte) :
    Option (List Byte) :=
  if x.2.1.enable.getLsbD (ownTrack - 1) then
    (captionRow format rows x.2.1).map fun row =>
      [byteOf x.1] ++ bytesOf 2 row ++ bytesOf 2 (captionColumn format x.2.1)
        ++ [byteOf (glyphHeight x.2.1), byteOf x.2.2.length] ++ x.2.2
  else none

/-! ### Messages (R156, R201) -/

/-- A message: type, length, order key, fields, check byte (R201). -/
def messageBytes (kind key : Byte) (fields : List Byte) : List Byte :=
  withCheck ([kind, byteOf (fields.length + 4), key] ++ fields)

/-- A withdrawal naming an order key. -/
def withdrawal (key : Byte) : OrderMessage := { isOrder := false, key := key, bytes := messageBytes 0x57#8 key [] }

/-- The caption items of an order. -/
def captionItems (im : Image) (passage : BitVec 24) (tr : Track) (b : Burst) : List (List Byte) :=
  (((List.range 6).zip (im.captions.zip (captionValues passage im.ownTrack b.n tr))).filterMap
    (captionBytes im.ownTrack b.format b.rows))

/-- The exposure order of a burst (R157, TABLE 12-6). -/
def exposureOrder (im : Image) (passage : BitVec 24) (tr : Track) (b : Burst) : OrderMessage :=
  { isOrder := true, key := b.trackId,
    bytes := messageBytes 0x4F#8 b.trackId
      ([formatCode b.format] ++ bytesOf 2 b.top ++ bytesOf 2 b.rows ++ bytesOf 2 b.e ++ [byteOf b.n]
        ++ ((b.frames.map fun f => byteOf f.gain) ++ List.replicate 4 0#8).take 4
        ++ [byteOf (captionItems im passage tr b).length] ++ (captionItems im passage tr b).flatten) }

/-- A message offered to the order line: it starts at once when the line is IDLE, each byte taking 5 µs, and joins the
line queue otherwise (R156). -/
def offerMessage (m : OrderMessage) (d : Device) : Device :=
  match d.cdu.orderLine with
  | none => { d with cdu := { d.cdu with orderLine := some (m, laterBy d.clock (5 * m.bytes.length)) } }
  | some _ => { d with cdu := { d.cdu with lineQueue := d.cdu.lineQueue ++ [m] } }

/-- The end of the message being sent: an order's end is recorded with its burst, and the first message waiting starts
at this instant (R156). -/
def endMessage (d : Device) : Device :=
  match d.cdu.orderLine with
  | none => d
  | some (m, _) =>
    let bursts := if m.isOrder then
        d.cdu.bursts.map fun b => if b.trackId == m.key then { b with orderEnd := some d.clock } else b
      else d.cdu.bursts
    match d.cdu.lineQueue with
    | [] => { d with cdu := { d.cdu with bursts := bursts, orderLine := none } }
    | next :: rest =>
      { d with cdu := { d.cdu with
          bursts := bursts, lineQueue := rest,
          orderLine := some (next, laterBy d.clock (5 * next.bytes.length)) } }

/-! ### Accepting a burst (R155, R166) -/

/-- The camera states in which a burst is accepted (R155). -/
def takesBursts : CameraState → Bool
  | .idle => true
  | .ordered => true
  | .busy => true
  | .booting => false
  | .locked => false

/-- R155: the CDU accepts one more burst. -/
def acceptsBurst (d : Device) : Bool := takesBursts d.cdu.state && decide (d.cdu.bursts.length < 2)

/-- R155: the burst joins the list, its order is composed and offered, the FDU takes its flash plan (R166), and an IDLE
camera becomes ORDERED. -/
def acceptBurst (im : Image) (tr : Track) (b : Burst) (fp : FlashPlan) (d : Device) : Device :=
  let passage := bcdAdvance (d.cdu.bursts.length + 1) d.rqs.passage
  let d1 := { d with
    cdu := { d.cdu with
      bursts := d.cdu.bursts ++ [b], state := if d.cdu.state = .idle then .ordered else d.cdu.state },
    fdu := { d.fdu with plans := d.fdu.plans ++ [fp] } }
  offerMessage (exposureOrder im passage tr b) d1

/-! ### Leaving the burst list -/

/-- R156: an order still waiting in the line queue is never sent. -/
def orderWaits (d : Device) (key : Byte) : Bool := d.cdu.lineQueue.any fun m => m.isOrder && m.key == key

/-- A burst leaves the list, its flash plan leaves the FDU (R166), and an order of it still waiting is removed (R156). -/
def dropBurst (id : Byte) (d : Device) : Device :=
  { d with
    cdu := { d.cdu with
      bursts := d.cdu.bursts.filter fun b => b.trackId != id,
      lineQueue := d.cdu.lineQueue.filter fun m => !(m.isOrder && m.key == id) },
    fdu := { d.fdu with plans := d.fdu.plans.filter fun p => p.trackId != id } }

/-- ORDERED while the list holds a burst, IDLE otherwise (R161, R163). -/
def restState (d : Device) : Device :=
  { d with cdu := { d.cdu with state := if d.cdu.bursts.isEmpty then .idle else .ordered } }

end Sys2Proof.Machine
end

