-- ==== Sys2Proof/Machine/Planning.lean ====
section
/-! DEFINITION. The arithmetic of arrival prediction (chapter 5, 5.2) and of capture planning (chapter 6, 6.2 to 6.6),
each as the rule's own formula. -/

namespace Sys2Proof.Machine

/-! ### Prediction (R84 to R89) -/

/-- R85. -/
def predictOneMark (s : Sighting) : Prediction :=
  let travel := roundNat (s.d * 1000000) s.v
  { vg := s.v, tPred := laterBy s.t2 travel, tol := 200 + travel * 12 / 1024, basis := .oneMark, travel := travel }

/-- The predicted gantry speed of a TWO_MARK prediction (R86, steps 1 and 2). -/
def twoMarkSpeed (far near : Sighting) : Nat :=
  let delta := roundInt (((near.v : Int) - far.v) * near.d) (far.d - near.d)
  (clampInt 500 120000 (clampInt (ceilDiv near.v 2) (2 * near.v) (near.v + delta))).toNat

/-- R86. -/
def predictTwoMark (far near : Sighting) : Prediction :=
  let vg := twoMarkSpeed far near
  let mean := roundNat (near.v + vg) 2
  let travel := roundNat (near.d * 1000000) mean
  { vg := vg, tPred := laterBy near.t2 travel, tol := 100 + travel * 4 / 1024, basis := .twoMark, travel := travel }

/-- R87. -/
def predictVerify (basis : Basis) (e : VerifyEntry) : Prediction :=
  let travel := roundNat (e.d * 1000000) e.v
  { vg := e.v, tPred := laterBy e.t2 travel, tol := 50 + travel * 2 / 1024, basis := basis, travel := travel }

/-- R88: tol doubled when a sighting used is flagged STALE_SOURCE. -/
def widenStale (stale : Bool) (p : Prediction) : Prediction := if stale then { p with tol := 2 * p.tol } else p

/-- TABLE 5-2: the prediction from the inputs held, and whether a sighting used is flagged STALE_SOURCE; none without
any input. -/
def predict (sightings : List Sighting) (verify : Option VerifyEntry) : Option (Prediction × Bool) :=
  match verify with
  | some e => some (predictVerify (if sightings.isEmpty then .verifyOnly else .verified) e, false)
  | none =>
    match sightings with
    | [] => none
    | [s] => some (widenStale s.staleSource (predictOneMark s), s.staleSource)
    | first :: latest :: _ =>
      let far := if latest.d ≤ first.d then first else latest
      let near := if latest.d ≤ first.d then latest else first
      if near.d + 10000 ≤ far.d then
        some (widenStale (far.staleSource || near.staleSource) (predictTwoMark far near), far.staleSource || near.staleSource)
      else some (widenStale near.staleSource (predictOneMark near), near.staleSource)

/-- S_z (R89, R116). -/
def zoneStep (im : Image) (vg : Nat) : Nat := im.zone * 1000000 / vg

/-- The plan-horizon time (R89). -/
def planHorizonTime (im : Image) (p : Prediction) : Time := shiftBy p.tPred (-((im.planHorizon * 1000 : Nat) : Int))

/-- The miss deadline (R89). -/
def missTime (im : Image) (p : Prediction) : Time := laterBy p.tPred (p.tol + zoneStep im p.vg)

/-- R89: the travel exceeds 8,000,000 µs, or the miss deadline is not before now plus 10,000,000 µs. The second is
reckoned from t_pred, which the first keeps within the comparison's range. -/
def outOfReach (im : Image) (now : Time) (p : Prediction) : Bool :=
  decide (8000000 < p.travel) || decide (10000000 ≤ timeDiff p.tPred now + (p.tol + zoneStep im p.vg : Nat))

/-! ### Window and readout (R113 to R115) -/

/-- R113. -/
def stripRows (im : Image) : Nat := 64 * 2 ^ im.stripBaseCode + 16 * im.stripAdd

/-- R114, for a height band (low, high). -/
def stripTop (im : Image) (low high : Nat) : Nat :=
  let h := (low + high) / 2
  let centre : Int := im.rowRef + roundInt (((im.hRef : Int) - h) * im.rowsPerM) 1000
  (clampInt 0 (2048 - stripRows im : Nat) (centre - (stripRows im / 2 : Nat))).toNat

/-- R115. -/
def readout (im : Image) (rows : Nat) : Nat := ceilDiv (rows * im.rowTime) 1000 + im.recovery

/-- Format, rows and window top (R113, R114). -/
def window (im : Image) (band : Option (Nat × Nat)) : Format × Nat × Nat :=
  match band, im.stripEnable with
  | some b, true => (.strip, stripRows im, stripTop im b.1 b.2)
  | _, _ => (.full, 2048, 0)

/-! ### Burst (R116 to R118) -/

/-- N₀ (R116). -/
def uncappedSize (tol sz : Nat) : Nat := max 1 (ceilDiv (2 * tol) sz)

/-- S (R117): the larger of S_z and R, made even. -/
def spacing (sz r : Nat) : Nat := max sz r + max sz r % 2

/-- The offset of frame k of n at spacing s (R117). -/
def offsetOf (n s k : Nat) : Int := (2 * (k : Int) - ((n : Int) - 1)) * s / 2

/-- The offsets of a burst (R117). -/
def offsetsOf (n s : Nat) : List Int := (List.range n).map (offsetOf n s)

/-- E before clamping (R118). -/
def blurExposure (im : Image) (vg : Nat) : Nat := im.blurLimit * 1000000 / vg

/-! ### Flash assignment (R119 to R121) -/

/-- TABLE 6-3. -/
def takingOrder : Nat → List Nat
  | 1 => [0]
  | 2 => [0, 1]
  | 3 => [1, 0, 2]
  | 4 => [1, 2, 0, 3]
  | _ => []

/-- R121: whether frame k is added to the frames already chosen. -/
def mayFlash (im : Image) (flashTimes : List Time) (previous : Option Time) (chosen : List Nat) (k : Nat) : Bool :=
  decide (chosen.length < im.pMax)
    && chosen.all (fun j => decide (im.flashSpacing ≤ (timeDiff (flashTimes.getD k 0#32) (flashTimes.getD j 0#32)).natAbs))
    && previous.all (fun p => decide (im.flashSpacing ≤ (timeDiff (flashTimes.getD k 0#32) p).natAbs))

/-- R121: the flashed-frame list, in ascending frame index. -/
def chooseFlashed (im : Image) (n : Nat) (flashTimes : List Time) (previous : Option Time) : List Nat :=
  let chosen := (takingOrder n).foldl
    (fun acc k => if mayFlash im flashTimes previous acc k then acc ++ [k] else acc) []
  (List.range n).filter fun k => chosen.contains k

/-- The gain steps (R119): 0 for a flashed frame, the gain boost for any other. -/
def gainSteps (im : Image) (n : Nat) (flashed : List Nat) : List Nat :=
  (List.range n).map fun k => if flashed.contains k then 0 else im.gainBoost

/-! ### The plan (R112, R122, R123) -/

/-- The time fields of a plan at a shift σ (R122, R123). -/
def withShift (im : Image) (sigma : Int) (p : Plan) : Plan :=
  let centres := p.offsets.map fun o => shiftBy p.tPred (sigma + o)
  let flashTimes := centres.map fun c => shiftBy c (-((p.e / 2 : Nat) : Int))
  let pulses := flashTimes.map fun f => shiftBy f (-(im.triggerLatency : Int))
  { p with
    sigma := sigma, centres := centres, flashTimes := flashTimes, pulses := pulses,
    armPoint := shiftBy (pulses.headD p.tPred) (-(im.armLead : Int)) }

/-- The plan flags the Capture Planner sets (R112). -/
structure PlanFlags where
  coveragePartial : Bool
  blurLimit : Bool
  flashless : Bool
  deriving DecidableEq, Repr

/-- R112 to R123: the plan of a prediction and a height band, with σ = 0 and no co-lit source. -/
def formPlan (im : Image) (flashAvailable : Bool) (previous : Option Time) (pred : Prediction)
    (band : Option (Nat × Nat)) : Plan × PlanFlags :=
  let w := window im band
  let r := readout im w.2.1
  let sz := zoneStep im pred.vg
  let n0 := uncappedSize pred.tol sz
  let n := min n0 im.nMax
  let s := spacing sz r
  let e := clampNat 2 im.eMax (blurExposure im pred.vg)
  let base : Plan :=
    { format := w.1, rows := w.2.1, top := w.2.2, r := r, sz := sz, n := n, s := s, offsets := offsetsOf n s, e := e,
      flashed := [], gains := [], plannedFlashed := [], plannedGains := [], plannedFlashless := !flashAvailable,
      sigma := 0, coLit := none, tPred := pred.tPred, centres := [], flashTimes := [], pulses := [],
      armPoint := pred.tPred }
  let timed := withShift im 0 base
  let flashed := if flashAvailable then chooseFlashed im n timed.flashTimes previous else []
  let gains := gainSteps im n flashed
  ({ timed with flashed := flashed, gains := gains, plannedFlashed := flashed, plannedGains := gains },
   { coveragePartial := decide (im.nMax < n0) || decide (sz < r), blurLimit := decide (blurExposure im pred.vg < 2),
     flashless := !flashAvailable })

/-! ### Dropping front frames (R128) -/

/-- The frames kept: all from the first whose pulse time is not before the busy-until time. -/
def framesToDrop (busyUntil : Option Time) (pulses : List Time) : Nat :=
  match busyUntil with
  | none => 0
  | some b => (pulses.takeWhile fun p => isBefore p b).length

/-- A plan without its first j frames, the rest numbered again from 0 (R128). -/
def dropFrames (j : Nat) (p : Plan) : Plan :=
  { p with
    n := p.n - j, offsets := p.offsets.drop j, centres := p.centres.drop j, flashTimes := p.flashTimes.drop j,
    pulses := p.pulses.drop j, gains := p.gains.drop j,
    flashed := (p.flashed.filter fun k => decide (j ≤ k)).map (· - j) }

end Sys2Proof.Machine
end

