-- ==== Sys2Proof/Machine/Claims.lean ====
section
/-! DEFINITION. The Claim Resolver's relations and its resolution of one plan against the neighbour claim list
(chapter 7, 7.3 and 7.4), worked in whole microseconds about the plan's t_pred. -/

namespace Sys2Proof.Machine

/-! ### Intervals (R134, R140) -/

/-- An interval of time about a reference instant: from `lo` to `hi`. -/
structure Span where
  lo : Int
  hi : Int
  deriving DecidableEq, Repr

/-- Two intervals overlap when each begins before the other ends (R140). -/
def overlaps (a b : Span) : Bool := decide (a.lo < b.hi) && decide (b.lo < a.hi)

/-- A span moved. -/
def moveSpan (by_ : Int) (a : Span) : Span := { lo := a.lo + by_, hi := a.hi + by_ }

/-- The exposure interval of an exposure starting at `start` (R140). -/
def exposureSpan (start : Int) (e : Nat) : Span := { lo := start, hi := start + e }

/-- The lit interval of a flash of length e at `start` with guard g (R140). -/
def litSpan (g : Nat) (start : Int) (e : Nat) : Span := { lo := start - g, hi := start + e + g }

/-- Frame centre j of a claim, about its burst centre (R134). -/
def frameOffset (n s j : Nat) : Int := (2 * (j : Int) - ((n : Int) - 1)) * s / 2

/-- The expiry deadline of a claim (R134). -/
def claimExpiry (g : Nat) (centre : Time) (n s e : Nat) : Time :=
  shiftBy centre (frameOffset n s (n - 1) - (e / 2 : Nat) + e + g)

/-- The start of frame j's exposure of an entry, about the reference instant `ref` (R140). -/
def entryStart (ref : Time) (c : NeighbourClaim) (j : Nat) : Int :=
  timeDiff c.centre ref + frameOffset c.n c.s j - (c.e / 2 : Nat)

/-- The exposure intervals of an entry. -/
def entryExposures (ref : Time) (c : NeighbourClaim) : List Span :=
  (List.range c.n).map fun j => exposureSpan (entryStart ref c j) c.e

/-- The lit intervals of an entry. -/
def entryLit (g : Nat) (ref : Time) (c : NeighbourClaim) : List Span :=
  c.flashed.map fun j => litSpan g (entryStart ref c j) c.e

/-- The own burst's intervals about a reference instant: exposures, and lit intervals of the flashed frames. -/
structure OwnSpans where
  exposures : List Span
  lit : List Span
  deriving DecidableEq, Repr

/-- R140: a lit interval of one overlaps an exposure interval of the other. -/
def conflicts (g : Nat) (ref : Time) (own : OwnSpans) (c : NeighbourClaim) : Bool :=
  own.exposures.any (fun x => (entryLit g ref c).any (overlaps x))
    || own.lit.any (fun x => (entryExposures ref c).any (overlaps x))

/-- The own intervals moved. -/
def moveOwn (by_ : Int) (own : OwnSpans) : OwnSpans :=
  { exposures := own.exposures.map (moveSpan by_), lit := own.lit.map (moveSpan by_) }

/-- The own plan's intervals at σ = 0, about its t_pred, with a flashed-frame list (R140, R122). -/
def planSpans (g : Nat) (p : Plan) (flashed : List Nat) : OwnSpans :=
  { exposures := p.offsets.map fun o => exposureSpan (o - (p.e / 2 : Nat)) p.e,
    lit := flashed.map fun k => litSpan g (p.offsets.getD k 0 - (p.e / 2 : Nat)) p.e }

/-! ### Co-lighting (R142) -/

/-- The distance of an entry's burst centre from the own t_pred. -/
def centreDistance (c : NeighbourClaim) (tPred : Time) : Nat := (timeDiff c.centre tPred).natAbs

/-- R142: the own plan can co-light on the entry. -/
def canCoLight (im : Image) (own : Nat) (p : Plan) (c : NeighbourClaim) : Bool :=
  c.flash && c.n == 1 && p.n == 1 && decide (centreDistance c p.tPred ≤ im.mergeWindow)
    && decide (p.e ≤ c.e + 2 * im.guardTime) && decide (c.key.station < own)

/-- R142: entry a is chosen before entry b: lower station, then nearer, then lower track id. -/
def chosenBefore (tPred : Time) (a b : NeighbourClaim) : Bool :=
  decide (a.key.station < b.key.station) ||
  (a.key.station == b.key.station &&
    (decide (centreDistance a tPred < centreDistance b tPred) ||
     (centreDistance a tPred == centreDistance b tPred && decide (a.key.trackId.toNat < b.key.trackId.toNat))))

/-- R142: the entry chosen to co-light on, if any qualifies. -/
def coLightSource (im : Image) (own : Nat) (p : Plan) (claims : List NeighbourClaim) : Option NeighbourClaim :=
  (claims.filter (canCoLight im own p)).foldl
    (fun best c => match best with
      | none => some c
      | some b => if chosenBefore p.tPred c b then some c else some b)
    none

/-! ### Yielding (R143, R144) -/

/-- R143: the entry would co-light on the own burst with burst size n, flashed-frame list, exposure e and time tPred. -/
def isJoiner (im : Image) (own n : Nat) (flashed : List Nat) (e : Nat) (tPred : Time) (c : NeighbourClaim) : Bool :=
  n == 1 && !flashed.isEmpty && c.n == 1 && decide (centreDistance c tPred ≤ im.mergeWindow)
    && decide (c.e ≤ e + 2 * im.guardTime) && decide (own < c.key.station)

/-- R143: the own station is the yielder towards the entry. -/
def yieldsTo (own tol : Nat) (c : NeighbourClaim) : Bool :=
  decide (c.tol < tol) || (tol == c.tol && decide (c.key.station < own))

/-- R143: the yield set of a resolution. -/
def yieldSet (im : Image) (own tol : Nat) (p : Plan) (source : Option ClaimKey) (claims : List NeighbourClaim) :
    List NeighbourClaim :=
  claims.filter fun c =>
    source != some c.key && !isJoiner im own p.n p.plannedFlashed p.e p.tPred c && yieldsTo own tol c

/-- R144: the shifts that bring the start of an own interval to the end of one of an entry's. -/
def shiftCandidates (g : Nat) (ref : Time) (own : OwnSpans) (set : List NeighbourClaim) : List Int :=
  set.flatMap fun c =>
    own.exposures.flatMap (fun x => (entryLit g ref c).map fun y => y.hi - x.lo)
      ++ own.lit.flatMap (fun x => (entryExposures ref c).map fun y => y.hi - x.lo)

/-- The own burst, moved by σ, conflicts with no entry of the set. -/
def clearAt (g : Nat) (ref : Time) (own : OwnSpans) (set : List NeighbourClaim) (sigma : Int) : Bool :=
  set.all fun c => !conflicts g ref (moveOwn sigma own) c

/-- R144: the smallest candidate σ ≥ 0 that clears every conflict. -/
def smallestShift (g : Nat) (ref : Time) (own : OwnSpans) (set : List NeighbourClaim) : Option Int :=
  ((shiftCandidates g ref own set).filter fun x => decide (0 ≤ x) && clearAt g ref own set x).foldl
    (fun best x => match best with
      | none => some x
      | some b => some (min b x))
    none

/-- What a resolution settles (R141). -/
structure Resolution where
  plan : Plan
  coLit : Bool
  glareRisk : Bool
  flashless : Bool
  deriving DecidableEq, Repr

/-- R141 to R144: one own plan resolved against the list, from the plan as the Capture Planner formed it. -/
def resolvePlan (im : Image) (own tol : Nat) (claims : List NeighbourClaim) (p : Plan) : Resolution :=
  match coLightSource im own p claims with
  | some src =>
    let sigma := timeDiff src.centre p.tPred
    let plan := { withShift im sigma p with flashed := [], gains := p.plannedGains.map fun _ => 0, coLit := some src.key }
    let set := yieldSet im own tol p (some src.key) claims
    { plan := plan, coLit := true, flashless := true,
      glareRisk := !clearAt im.guardTime p.tPred (planSpans im.guardTime p []) set sigma }
  | none =>
    let own0 := planSpans im.guardTime p p.plannedFlashed
    let set := yieldSet im own tol p none claims
    let base := fun (sigma : Int) =>
      { withShift im sigma p with flashed := p.plannedFlashed, gains := p.plannedGains, coLit := none }
    if clearAt im.guardTime p.tPred own0 set 0 then
      { plan := base 0, coLit := false, glareRisk := false, flashless := p.plannedFlashless }
    else
      match smallestShift im.guardTime p.tPred own0 set with
      | some sigma =>
        if sigma ≤ im.yieldLimit then
          { plan := base sigma, coLit := false, glareRisk := false, flashless := p.plannedFlashless }
        else { plan := base 0, coLit := false, glareRisk := true, flashless := p.plannedFlashless }
      | none => { plan := base 0, coLit := false, glareRisk := true, flashless := p.plannedFlashless }

end Sys2Proof.Machine
end

