-- ==== Sys2Proof/Machine/Tracks.lean ====
section
/-! DEFINITION. What the Head Tracker does with a live track: closing it (R108, R109), planning it (R99, R112), resolving
it and deciding its claim (R141, R146, R147), the arm point (R100, R124, R128), claim reports (R106, R107), settling
(R104, R105), and what a change of the neighbour claim list does to the own tracks (R139, R150). -/

namespace Sys2Proof.Machine

/-- No flag (R96). -/
def noFlags : TrackFlags :=
  { noClaim := false, glareRisk := false, coLit := false, coLitLost := false, trimClamped := false,
    coveragePartial := false, unverified := false, flashless := false, blurLimit := false, forced := false,
    staleSource := false }

/-! ### Closing (R108, R109) -/

/-- TABLE 5-6. -/
def recordedOutcome (f : FrameEntry) : RecordedOutcome :=
  match f.outcome with
  | some .timeout => .timeout
  | some .cancelled => .cancelled
  | some .ok => if f.misfire then .dark else .ok
  | some .readoutSuspect => if f.misfire then .dark else .readoutSuspect
  | some .late => if f.misfire then .dark else .late
  | none => .cancelled

/-- The plan's part of the record (TABLE 5-8). -/
def recordPlan (p : Plan) : RecordPlan :=
  { format := p.format, top := p.top, rows := p.rows, n := p.n, s := p.s, e := p.e, sigma := p.sigma }

/-- The capture record of a track (R109, TABLE 5-8); the queue puts in the passage number. -/
def captureRecord (ownTrack : Nat) (outcome : TrackOutcome) (reason : Reason) (tr : Track) : CaptureRecord :=
  { passage := 0#24, track := ownTrack, side := tr.side, outcome := outcome, reason := reason, basis := tr.pred.basis,
    sightings := tr.sightings.map fun s => (s.station, s.pair, s.seq), vg := tr.pred.vg, tPred := tr.pred.tPred,
    tol := tr.pred.tol, residual := tr.residual, plan := tr.plan.map recordPlan, coLit := tr.plan.bind (·.coLit),
    flags := tr.flags,
    frames := tr.frames.map fun f =>
      { index := f.index, pulse := f.pulse, flash := f.flash, outcome := recordedOutcome f } }

/-- The own track of the configuration image. -/
def ownTrack (d : Device) : Nat := d.cfl.image.elim 1 (·.ownTrack)

/-- R108, steps 1 to 5: UNVERIFIED, the record, the release, and the removal with the track's deadlines, claim
reference and announced claim. -/
def closeTrack (outcome : TrackOutcome) (reason : Reason) (id : Byte) (d : Device) : Device :=
  match findTrack d id with
  | none => d
  | some tr =>
    let closing : Track := { tr with flags := { tr.flags with unverified := tr.flags.unverified || tr.verify.isNone } }
    let recorded := offerCapture (captureRecord (ownTrack d) outcome reason closing) d
    let released :=
      if !tr.frames.any (·.pulsed) && tr.claimStatus != .none then requestRelease id recorded else recorded
    setTracks (released.htk.tracks.filter fun x => x.id != id) released

/-! ### Settling (R104, R105) -/

/-- R104: the frame is settled. -/
def frameSettled (f : FrameEntry) : Bool :=
  f.outcome.isSome && (!f.pulsed || (f.flashReported && (!f.ownFired || f.returnKnown)))

/-- A recorded outcome that makes the track PARTIAL (R105). -/
def frameFailed (f : FrameEntry) : Bool :=
  match f.outcome with
  | some .timeout => true
  | some .cancelled => true
  | _ => false

/-- R105: a track whose every frame is settled closes CAPTURED or PARTIAL. -/
def closeIfSettled (id : Byte) (d : Device) : Device :=
  match findTrack d id with
  | none => d
  | some tr =>
    if !tr.frames.isEmpty && tr.frames.all frameSettled then
      closeTrack (if tr.frames.any frameFailed then .partialCapture else .captured) .none id d
    else d

/-- A frame entry of a track changed. -/
def modifyFrame (id : Byte) (k : Nat) (f : FrameEntry → FrameEntry) (d : Device) : Device :=
  modifyTrack id (fun tr => { tr with frames := tr.frames.map fun x => if x.index == k then f x else x }) d

/-- R104: the camera outcome of a frame reported; a frame cancelled before its pulse has flash value NONE (DEDUCED, log 29). -/
def reportOutcome (id : Byte) (k : Nat) (o : CameraOutcome) (d : Device) : Device :=
  modifyFrame id k (fun x => { x with outcome := some o, flash := if o = .cancelled then .none else x.flash }) d

/-! ### Height band and previous flash (R83, R120) -/

/-- R83: the first input with a band without PARTIAL_HEIGHT, or else the first with a band. -/
def bandOf (tr : Track) : Option (Nat × Nat) :=
  let inputs : List (Option (Nat × Nat) × Bool) :=
    (tr.verify.map fun v => (v.band, v.partialHeight)).toList
      ++ tr.sightings.reverse.map fun s => (s.band, s.partialHeight)
  match inputs.find? (fun x => x.1.isSome && !x.2) with
  | some x => x.1
  | none =>
    match inputs.find? (fun x => x.1.isSome) with
    | some x => x.1
    | none => none

/-- The flash times of a track's flashed frames whose pulses have not been issued (R120, R130). -/
def unissuedFlashTimes (im : Image) (tr : Track) : List Time :=
  match tr.plan, tr.state with
  | none, _ => []
  | some _, .predicted => []
  | some p, .planned => p.flashed.map fun k => p.flashTimes.getD k 0#32
  | some p, .armed => (tr.frames.filter fun f => p.flashed.contains f.index && !f.pulsed).map
      fun f => laterBy f.pulse im.triggerLatency
  | some p, .exposing => (tr.frames.filter fun f => p.flashed.contains f.index && !f.pulsed).map
      fun f => laterBy f.pulse im.triggerLatency

/-- The latest of some instants. -/
def latestOf (l : List Time) : Option Time :=
  l.foldl (fun best x => match best with
    | none => some x
    | some b => some (laterOf b x)) none

/-- R120: the previous flash time of the planning of a track. -/
def previousFlash (im : Image) (d : Device) (id : Byte) : Option Time :=
  latestOf (d.fdu.lastPulse.toList ++
    (d.htk.tracks.takeWhile fun x => x.id != id).flatMap (unissuedFlashTimes im))

/-! ### The arm point (R100, R127 to R129, R155) -/

/-- R127, second term: the pulse time of the last frame not CANCELLED or TIMEOUT, plus R. -/
def busyAfter (tr : Track) : Option Time :=
  match tr.plan with
  | none => none
  | some p => ((tr.frames.filter fun f => !frameFailed f).getLast?).map fun f => laterBy f.pulse p.r

/-- R127: the camera busy-until time for a track being armed. -/
def busyUntil (d : Device) (id : Byte) : Option Time :=
  latestOf ((d.cpl.lastPulse.map fun x => laterBy x.1 x.2).toList ++
    (d.htk.tracks.filter fun x => x.id != id && (x.state == .armed || x.state == .exposing)).filterMap busyAfter)

/-- The frame list formed at arming (R100, step 3). -/
def armedFrames (p : Plan) : List FrameEntry :=
  (List.range p.n).map fun k =>
    { index := k, pulse := p.pulses.getD k 0#32, flash := if p.flashed.contains k then .own else .none, outcome := none,
      misfire := false, pulsed := false, flashReported := false, ownFired := false, returnKnown := false }

/-- The burst handed to the Camera Drive Unit (R129). -/
def burstOf (id : Byte) (p : Plan) : Burst :=
  { trackId := id, format := p.format, top := p.top, rows := p.rows, e := p.e, n := p.n, r := p.r,
    frames := (List.range p.n).map fun k =>
      { index := k, pulse := p.pulses.getD k 0#32, gain := p.gains.getD k 0, issued := false, overdue := false,
        outcome := none },
    orderEnd := none }

/-- The flash plan handed to the Flash Drive Unit (R129, R166). -/
def flashPlanOf (id : Byte) (p : Plan) : FlashPlan :=
  { trackId := id, e := p.e, flashed := p.flashed, coLit := p.coLit }

/-- R100: the arm point of a PLANNED track has come: overlap, offer, arm. COVERAGE_PARTIAL of the overlap stays when the
offer is refused, and NO_CLAIM comes after the order is composed (DEDUCED, log 23). -/
def armTrack (id : Byte) (d : Device) : Device :=
  match findTrack d id, d.cfl.image with
  | some tr, some im =>
    match tr.plan with
    | none => d
    | some p =>
      let d0 := modifyTrack id (fun x => { x with armPoint := none }) d
      let j := framesToDrop (busyUntil d id) p.pulses
      if p.n ≤ j then closeTrack .missed .overlap id d0
      else
        let kept := dropFrames j p
        let flags := { tr.flags with coveragePartial := tr.flags.coveragePartial || decide (0 < j) }
        let d1 := modifyTrack id (fun x => { x with flags := flags }) d0
        if acceptsBurst d1 then
          let d2 := acceptBurst im { tr with flags := flags } (burstOf id kept) (flashPlanOf id kept) d1
          modifyTrack id
            (fun x => { x with
              state := .armed, plan := some kept, frames := armedFrames kept, missDeadline := none,
              flags := { flags with noClaim := flags.noClaim || x.claimStatus == .none } })
            d2
        else closeTrack .missed .camera id d1
  | _, _ => d

/-- The pulse time of frame 0 of a plan. -/
def firstPulse (p : Plan) : Time := p.pulses.headD p.tPred

/-- R99 step 3 and R124: the arm-point deadline set, or the late-plan rule applied. -/
def fixArmPoint (id : Byte) (d : Device) : Device :=
  match (findTrack d id).bind (·.plan) with
  | none => d
  | some p =>
    if isAfter p.armPoint d.clock then modifyTrack id (fun x => { x with armPoint := some p.armPoint }) d
    else if 1800 ≤ timeDiff (firstPulse p) d.clock then armTrack id d
    else closeTrack .missed .late id d

/-! ### Claims (R106, R107, R126, R146, R147) -/

/-- The claim a plan offers (R126). -/
def offeredClaim (d : Device) (tr : Track) (p : Plan) : ClaimContents :=
  { trackId := tr.id, track := ownTrack d, centre := shiftBy p.tPred p.sigma, n := p.n, s := p.s, e := p.e,
    tol := tr.pred.tol, flashed := p.flashed, sentBefore := tr.claimStatus == .sent }

/-- The reference a request leaves behind (R146, R147). -/
def referenceOf (c : ClaimContents) : ClaimReference := { centre := c.centre, n := c.n, flash := !c.flashed.isEmpty }

/-- R147: the offered claim differs enough from the reference; with no reference held it does (DEDUCED, log 21). -/
def needsRevision (reference : Option ClaimReference) (c : ClaimContents) : Bool :=
  match reference with
  | none => true
  | some r => decide (100 ≤ (timeDiff c.centre r.centre).natAbs) || r.n != c.n || r.flash != !c.flashed.isEmpty

/-- R106, R107: a drop report with a reason other than FLUSHED: QUEUED becomes NONE, SENT and NONE stay; NO_CLAIM is set
when the status becomes NONE in ARMED or EXPOSING. -/
def loseClaim (tr : Track) : Track :=
  match tr.claimStatus with
  | .queued => { tr with
      claimStatus := .none,
      flags := { tr.flags with noClaim := tr.flags.noClaim || tr.state == .armed || tr.state == .exposing } }
  | .sent => tr
  | .none => tr

/-- A drop report hands a PLANNED track back when its status changes from QUEUED to NONE (R106). -/
def handsBack (tr : Track) : Bool := tr.state == .planned && tr.claimStatus == .queued

/-- R146, R147: the claim decision after a resolution; true when a drop on arrival hands the track back (R106). -/
def claimDecision (id : Byte) (d : Device) : Device × Bool :=
  match findTrack d id with
  | none => (d, false)
  | some tr =>
    match tr.plan with
    | none => (d, false)
    | some p =>
      let c := offeredClaim d tr p
      if tr.state != .planned then (d, false)
      else if tr.claimStatus != .none && !needsRevision tr.reference c then (d, false)
      else
        let r := requestClaim c d
        match r.2 with
        | .taken =>
          (modifyTrack id
            (fun x => { x with
              reference := some (referenceOf c),
              claimStatus := if x.claimStatus == .none then .queued else x.claimStatus })
            r.1, false)
        | .refused => (modifyTrack id (fun x => { x with flags := { x.flags with noClaim := true } }) r.1, false)
        | .dropped => (modifyTrack id loseClaim r.1, handsBack tr)

/-- The outcome of a resolution written into the track (R141). -/
def writeResolution (r : Resolution) (tr : Track) : Track :=
  { tr with
    plan := some r.plan,
    flags := { tr.flags with coLit := r.coLit, glareRisk := r.glareRisk, flashless := r.flashless } }

/-- R141: a PLANNED track resolved against the list, its arm point fixed, and its claim decided. -/
def resolveOnce (id : Byte) (d : Device) : Device × Bool :=
  match findTrack d id, d.cfl.image with
  | some tr, some im =>
    match tr.state, tr.plan with
    | .planned, some p =>
      let r := resolvePlan im (ownNumber d) tr.pred.tol d.crs.claims p
      claimDecision id (fixArmPoint id (modifyTrack id (writeResolution r) d))
    | _, _ => (d, false)
  | _, _ => (d, false)

/-- R141 with the hand-back of R106: a revision dropped on arrival makes the status NONE, and the resolution that
follows finds it NONE and is handed back no more. -/
def resolveTrack (id : Byte) (d : Device) : Device :=
  let r := resolveOnce id d
  if r.2 then (resolveOnce id r.1).1 else r.1

/-- Every own track in PLANNED resolved again, in list order (R139, DESIGN CHOICE, log 16). -/
def resolveAll (d : Device) : Device := forEach (plannedIds d) resolveTrack d

/-- A drop report of Frame Exchange for a track (R106, R107). -/
def dropReport (reason : DropReason) (id : Byte) (d : Device) : Device :=
  match findTrack d id with
  | none => d
  | some tr =>
    match reason with
    | .flushed => modifyTrack id (fun x => { x with flags := { x.flags with noClaim := true } }) d
    | .evicted | .expired | .outOfRange | .contention =>
      let d1 := modifyTrack id loseClaim d
      if handsBack tr then resolveTrack id d1 else d1

/-- The report for a dropped entry, when it is a CLAIM not marked withdrawn (R55 to R57, R59). -/
def reportDropped (reason : DropReason) (e : QueueEntry) (d : Device) : Device :=
  match e.out with
  | .claim c => if e.withdrawn then d else dropReport reason c.trackId d
  | _ => d

/-- R62, R106, R148: an own CLAIM heard back. -/
def claimHeardBack (id : Byte) (centre : Time) (d : Device) : Device :=
  modifyTrack id
    (fun x => { x with
      claimStatus := .sent, announced := some centre, reference := x.reference.map fun r => { r with centre := centre } })
    d

/-! ### Planning (R99, R112, R125) -/

/-- The plan and its flags written into a track that is PLANNED (R99 step 1, R112). -/
def writePlan (p : Plan) (f : PlanFlags) (tr : Track) : Track :=
  { tr with
    state := .planned, planHorizon := none, plan := some p,
    flags := { tr.flags with coveragePartial := f.coveragePartial, blurLimit := f.blurLimit, flashless := f.flashless } }

/-- R99: a track enters PLANNED, or is planned again, and is resolved. -/
def planTrack (id : Byte) (d : Device) : Device :=
  match findTrack d id, d.cfl.image with
  | some tr, some im =>
    let r := formPlan im (d.fdu.state == .idle) (previousFlash im d id) tr.pred (bandOf tr)
    resolveTrack id (modifyTrack id (writePlan r.1 r.2) d)
  | _, _ => d

/-- Planned again only if the track is in PLANNED. -/
def replanTrack (id : Byte) (d : Device) : Device :=
  match findTrack d id with
  | some tr => if tr.state = .planned then planTrack id d else d
  | none => d

/-- R125: every PLANNED track planned again, front first. -/
def replanAll (d : Device) : Device := forEach (plannedIds d) replanTrack d

/-- R98: the plan-horizon deadline set in PREDICTED, or PLANNED entered when its time is not after now. -/
def enterHorizon (id : Byte) (d : Device) : Device :=
  match findTrack d id, d.cfl.image with
  | some tr, some im =>
    if isAfter (planHorizonTime im tr.pred) d.clock then
      modifyTrack id (fun x => { x with planHorizon := some (planHorizonTime im tr.pred) }) d
    else planTrack id d
  | _, _ => d

/-! ### A change of the neighbour claim list (R139, R150) -/

/-- The own burst from the arm point on: exposures not yet ended, and lit intervals of the flashed ones among them,
about the present instant (R140, R150). A frame already CANCELLED counts at its planned pulse time (DESIGN CHOICE, log
33). -/
def armedSpans (im : Image) (now : Time) (p : Plan) (frames : List FrameEntry) : OwnSpans :=
  let live := frames.filter fun f => decide (0 < timeDiff (laterBy f.pulse (im.triggerLatency + p.e)) now)
  let start := fun (f : FrameEntry) => timeDiff (laterBy f.pulse im.triggerLatency) now
  { exposures := live.map fun f => exposureSpan (start f) p.e,
    lit := (live.filter fun f => p.flashed.contains f.index).map fun f => litSpan im.guardTime (start f) p.e }

/-- R150: an entry made or replaced sets GLARE_RISK on an ARMED or EXPOSING track it conflicts with, unless it is the
co-lit source or a joiner of the plan as armed, taken about the plan's own t_pred and with N and the flashed frames as
armed (DEDUCED, log 22). -/
def checkArmed (im : Image) (own : Nat) (now : Time) (c : NeighbourClaim) (tr : Track) : Track :=
  match tr.plan with
  | none => tr
  | some p =>
    if (tr.state == .armed || tr.state == .exposing) && p.coLit != some c.key
        && !isJoiner im own p.n p.flashed p.e p.tPred c
        && conflicts im.guardTime now (armedSpans im now p tr.frames) c then
      { tr with flags := { tr.flags with glareRisk := true } }
    else tr

/-- The neighbour claim list replaced, with the effects of R139: `made` is the entry made or replaced, if any. -/
def changeClaims (l : List NeighbourClaim) (made : Option NeighbourClaim) (d : Device) : Device :=
  let d1 := { d with crs := { d.crs with claims := l } }
  let d2 := match made, d.cfl.image with
    | some c, some im => setTracks (d1.htk.tracks.map (checkArmed im (ownNumber d) d.clock c)) d1
    | _, _ => d1
  resolveAll d2

/-- The entry with a key removed, when the list holds it (R135, R137, R138). -/
def removeClaim (key : ClaimKey) (d : Device) : Device :=
  if d.crs.claims.any (fun c => c.key == key) then
    changeClaims (d.crs.claims.filter fun c => c.key != key) none d
  else d

/-- R136: the entry of a full list given up before a newcomer: the one with the soonest expiry, the earliest to join on
a tie. -/
def soonestClaim (l : List NeighbourClaim) : Option NeighbourClaim :=
  l.foldl (fun best c => match best with
    | none => some c
    | some b =>
      if isBefore c.expiry b.expiry || (c.expiry == b.expiry && decide (c.join < b.join)) then some c else some b) none

/-- R135: a CLAIM taken. -/
def takeClaim (key : ClaimKey) (f : ClaimFrame) (centre : Time) (d : Device) : Device :=
  match d.cfl.image with
  | none => d
  | some im =>
    let expiry := claimExpiry im.guardTime centre f.n f.s f.e
    let entry : NeighbourClaim :=
      { key := key, track := f.track, flash := f.flash, centre := centre, n := f.n, s := f.s, e := f.e, tol := f.tol,
        flashed := f.flashed, join := d.crs.nextJoin, expiry := expiry }
    if !im.adjacency.getLsbD (f.track - 1) then removeClaim key d
    else if !isAfter expiry d.clock then removeClaim key d
    else if 10000000 ≤ timeDiff expiry d.clock then removeClaim key d
    else
      match d.crs.claims.find? (fun c => c.key == key) with
      | some old =>
        let revised := { entry with join := old.join }
        changeClaims (d.crs.claims.map fun c => if c.key == key then revised else c) (some revised) d
      | none =>
        let d1 := { d with crs := { d.crs with nextJoin := d.crs.nextJoin + 1 } }
        if d.crs.claims.length < 8 then changeClaims (d.crs.claims ++ [entry]) (some entry) d1
        else
          match soonestClaim d.crs.claims with
          | none => d
          | some soonest =>
            if isAfter expiry soonest.expiry then
              changeClaims ((d.crs.claims.filter fun c => c.key != soonest.key) ++ [entry]) (some entry) d1
            else d

end Sys2Proof.Machine
end

