-- ==== Sys2Proof/Machine/Pulses.lean ====
section
/-! DEFINITION. Trigger pulses, READY supervision and lockout of the camera (chapter 8, 8.5, 8.6), and the flash
(8.7). -/

namespace Sys2Proof.Machine

/-! ### Trigger pulses (R159, R160) -/

/-- The first frame of a burst neither issued nor settled: every frame of a lower index has been issued or cancelled. -/
def nextFrame (b : Burst) : Option BurstFrame := b.frames.find? fun f => !f.issued && f.outcome.isNone

/-- R159, conditions 1 and 4 to 6, for a frame of the burst in hand. -/
def mayIssue (im : Image) (d : Device) (b : Burst) (f : BurstFrame) : Bool :=
  !isAfter f.pulse d.clock && d.cdu.state == .ordered
    && due (b.orderEnd.map fun e => laterBy e im.cameraSetup) d.clock && d.cdu.triggerEnd.isNone

/-- A frame of a burst changed in the burst list. -/
def modifyBurstFrame (id : Byte) (k : Nat) (f : BurstFrame → BurstFrame) (d : Device) : Device :=
  { d with cdu := { d.cdu with
      bursts := d.cdu.bursts.map fun b =>
        if b.trackId == id then
          { b with frames := b.frames.map fun x => if x.index == k then f x else x }
        else b } }

/-- The early bound of a ready window (R161). -/
def earlyBound (im : Image) (pulse : Time) (r : Nat) : Time := laterBy pulse (r - im.readyMargin)

/-- The outstanding frame of a pulse issued now (R161). -/
def outstandingOf (im : Image) (now : Time) (b : Burst) (f : BurstFrame) : Outstanding :=
  { trackId := b.trackId, frame := f.index, pulse := now, earlyBound := earlyBound im now b.r,
    readyDeadline := laterBy now (b.r + im.readyMargin), issuedLate := f.overdue || f.pulse != now }

/-- The flash decision that becomes pending at a pulse (R166). -/
def decisionOf (im : Image) (now : Time) (id : Byte) (k : Nat) (fp : FlashPlan) : FlashDecision :=
  { trackId := id, frame := k, instant := laterBy now im.triggerLatency, e := fp.e, flashed := fp.flashed.contains k,
    coLit := fp.coLit }

/-- R103, R104: the Head Tracker told of a pulse at its actual time. -/
def trackPulsed (now : Time) (k : Nat) (tr : Track) : Track :=
  { tr with
    state := if tr.state = .armed then .exposing else tr.state,
    frames := tr.frames.map fun x => if x.index == k then { x with pulse := now, pulsed := true } else x }

/-- R159: a pulse issued now, with everything that comes about at that instant. -/
def issueNow (im : Image) (b : Burst) (f : BurstFrame) (d : Device) : Device :=
  let d1 := modifyBurstFrame b.trackId f.index (fun x => { x with pulse := d.clock, issued := true }) d
  let d2 := { d1 with
    cdu := { d1.cdu with
      state := .busy, triggerEnd := some (laterBy d.clock 10), outstanding := some (outstandingOf im d.clock b f) },
    cpl := { lastPulse := some (d.clock, b.r) },
    fdu := { d1.fdu with
      decisions := d1.fdu.decisions ++
        ((d1.fdu.plans.filter fun p => p.trackId == b.trackId).map (decisionOf im d.clock b.trackId f.index)).take 1 } }
  modifyTrack b.trackId (trackPulsed d.clock f.index) d2

/-- R159: the next pulse issued if all its conditions hold. At most one is issued, for the camera is then BUSY. -/
def issuePulses (d : Device) : Device :=
  match d.cdu.bursts, d.cfl.image with
  | b :: _, some im =>
    match nextFrame b with
    | some f => if mayIssue im d b f then issueNow im b f d else d
    | none => d
  | _, _ => d

/-- R160: the pulse times of a burst's frames not yet issued or cancelled moved by a trim; a time already reached makes
the pulse issued late (DEDUCED, log 18). -/
def trimBurst (id : Byte) (by_ : Int) (d : Device) : Device :=
  { d with cdu := { d.cdu with
      bursts := d.cdu.bursts.map fun b =>
        if b.trackId == id then
          { b with frames := b.frames.map fun f =>
              if !f.issued && f.outcome.isNone then
                { f with pulse := shiftBy f.pulse by_, overdue := !isAfter (shiftBy f.pulse by_) d.clock }
              else f }
        else b } }

/-! ### READY (R154, R161, R162) -/

/-- TABLE 8-6. -/
def readyOutcome (o : Outstanding) (now : Time) : CameraOutcome :=
  if isBefore now o.earlyBound then .readoutSuspect else if o.issuedLate then .late else .ok

/-- A burst whose every frame has a camera outcome. -/
def burstSettled (b : Burst) : Bool := b.frames.all (·.outcome.isSome)

/-- A camera outcome given to a frame of a burst, in the burst list and in the track (R161, R104). -/
def settleFrame (id : Byte) (k : Nat) (o : CameraOutcome) (d : Device) : Device :=
  reportOutcome id k o (modifyBurstFrame id k (fun x => { x with outcome := some o }) d)

/-- A burst leaves the list once every frame of it is settled (R161). -/
def dropIfSettled (id : Byte) (d : Device) : Device :=
  if d.cdu.bursts.any (fun b => b.trackId == id && burstSettled b) then dropBurst id d else d

/-- R161: a READY settles the outstanding frame. -/
def settleReady (o : Outstanding) (d : Device) : Device :=
  let d1 := settleFrame o.trackId o.frame (readyOutcome o d.clock) d
  let d2 := { d1 with cdu := { d1.cdu with timeouts := 0, outstanding := none } }
  closeIfSettled o.trackId (restState (dropIfSettled o.trackId d2))

/-- A READY taken (R154, R161, R162): it ends BOOTING, settles the outstanding frame, or is disregarded; it is not yet
due at the instant of the pulse itself (R162). A pulse that waited for it is issued at the same instant. -/
def takeReady (d : Device) : Device :=
  match d.cdu.state with
  | .booting =>
    if d.cdu.bootDeadline.isSome then
      { d with cdu := { d.cdu with state := .idle, timeouts := 0, bootDeadline := none } }
    else d
  | .busy =>
    match d.cdu.outstanding with
    | some o => if o.pulse = d.clock then d else issuePulses (settleReady o d)
    | none => d
  | .idle => d
  | .ordered => d
  | .locked => d

/-- R154: the boot window opened; a CAM_RDY already active is a READY at this instant. -/
def startBoot (im : Image) (d : Device) : Device :=
  let d1 := { d with cdu := { d.cdu with
    state := .booting, timeouts := 0, bootDeadline := some (laterBy d.clock (im.bootWindow * 1000)) } }
  if d.pins.camRdy then takeReady d1 else d1

/-! ### Timeouts and lockout (R154, R163, R164) -/

/-- Every frame of a burst not yet issued is CANCELLED and reported (R163, R164). -/
def cancelFrames (b : Burst) (d : Device) : Device :=
  forEach (b.frames.filter fun f => !f.issued && f.outcome.isNone) (fun f => settleFrame b.trackId f.index .cancelled) d

/-- A burst has a frame not yet issued. -/
def hasUnissued (b : Burst) : Bool := b.frames.any fun f => !f.issued && f.outcome.isNone

/-- R163, R164: a burst's unissued frames are cancelled, it leaves the list, and a withdrawal is offered when frames
were cancelled after its order began. -/
def cancelBurst (b : Burst) (d : Device) : Device :=
  let withdraws := hasUnissued b && !orderWaits d b.trackId
  let d1 := dropBurst b.trackId (cancelFrames b d)
  if withdraws then offerMessage (withdrawal b.trackId) d1 else d1

/-- R164: the camera enters LOCKED; its bursts leave in the order of the burst list (DESIGN CHOICE, log 35). -/
def lockCamera (d : Device) : Device :=
  let bursts := d.cdu.bursts
  let d1 := forEach bursts cancelBurst d
  let d2 := { d1 with cdu := { d1.cdu with state := .locked, bootDeadline := none } }
  forEach bursts (fun b => closeIfSettled b.trackId) (raise .cameraLockout d2)

/-- R163: a burst has a pulse whose time has been reached and which is held back. -/
def pulseWaits (now : Time) (b : Burst) : Bool :=
  match nextFrame b with
  | some f => !isAfter f.pulse now
  | none => false

/-- R163: the outstanding frame times out. Two bursts that leave are taken in the order of the burst list (DESIGN CHOICE,
log 35). -/
def timeOut (o : Outstanding) (d : Device) : Device :=
  let d1 := settleFrame o.trackId o.frame .timeout d
  let d2 := { d1 with cdu := { d1.cdu with outstanding := none } }
  let inHand := d2.cdu.bursts.filter fun b => b.trackId == o.trackId
  let next := (d2.cdu.bursts.filter fun b => b.trackId != o.trackId).take 1
  let leaving := inHand ++ next.filter (pulseWaits d.clock)
  let d3 : Device := forEach leaving cancelBurst d2
  let d4 : Device := forEach leaving (fun (b : Burst) => closeIfSettled b.trackId) d3
  let d5 : Device := { d4 with cdu := { d4.cdu with timeouts := d4.cdu.timeouts + 1 } }
  if d5.cdu.timeouts = 4 then lockCamera d5 else restState d5

/-- R154: the boot deadline expires. -/
def bootExpires (im : Image) (d : Device) : Device :=
  let d1 := { d with cdu := { d.cdu with timeouts := d.cdu.timeouts + 1 } }
  if d1.cdu.timeouts = 4 then lockCamera d1
  else { d1 with cdu := { d1.cdu with bootDeadline := some (laterBy d.clock (im.bootWindow * 1000)) } }

/-- R165: CLEAR_LOCKOUT for the camera. -/
def clearCamera (d : Device) : Device :=
  match d.cdu.state, d.cfl.image with
  | .locked, some im => startBoot im d
  | _, _ => d

/-! ### The flash (R151, R167 to R171) -/

/-- R104: the flash value of a frame reported. -/
def reportFlash (id : Byte) (k : Nat) (v : FlashValue) (fired : Bool) (d : Device) : Device :=
  closeIfSettled id (modifyFrame id k (fun x => { x with flash := v, flashReported := true, ownFired := fired }) d)

/-- R167: an own flash is allowed at a flash instant. -/
def flashAllowed (im : Image) (d : Device) (f : Time) : Bool :=
  d.fdu.state == .idle && d.fdu.lastPulse.all fun l => decide ((im.flashSpacing : Int) ≤ timeDiff f l)

/-- R168: the flash fired at the present instant. FL_FIRE is then active for this flash's E, also when an earlier E has
not passed (DESIGN CHOICE, log 36). -/
def fireFlash (im : Image) (x : FlashDecision) (d : Device) : Device :=
  { d with fdu := { d.fdu with
      fireEnd := some (laterBy d.clock x.e), lastPulse := some d.clock,
      awaited := d.fdu.awaited ++
        [{ trackId := x.trackId, frame := x.frame, fired := d.clock, deadline := laterBy d.clock im.returnWindow }] } }

/-- R167: a flashed frame, or a co-lit frame whose source is not held: fired when allowed. -/
def decideOwnFlash (im : Image) (x : FlashDecision) (d : Device) : Device :=
  if flashAllowed im d d.clock then reportFlash x.trackId x.frame .own true (fireFlash im x d)
  else reportFlash x.trackId x.frame .none false d

/-- R151: an entry covers a frame exposed from now for e: flash flag yes, N = 1, and its lit interval contains the
exposure interval. -/
def covers (g : Nat) (now : Time) (e : Nat) (c : NeighbourClaim) : Bool :=
  c.flash && c.n == 1 && (entryLit g now c).any fun l => decide (l.lo ≤ 0) && decide ((e : Int) ≤ l.hi)

/-- CO_LIT_LOST set (R151). -/
def loseCoLit (id : Byte) (d : Device) : Device :=
  modifyTrack id (fun x => { x with flags := { x.flags with coLitLost := true } }) d

/-- R167: a frame's flash decided at its flash instant. -/
def decideFlash (im : Image) (x : FlashDecision) (d : Device) : Device :=
  match x.coLit with
  | some key =>
    match d.crs.claims.find? (fun c => c.key == key) with
    | some c =>
      reportFlash x.trackId x.frame .coLit false
        (if covers im.guardTime d.clock x.e c then d else loseCoLit x.trackId d)
    | none => decideOwnFlash im x (loseCoLit x.trackId d)
  | none => if x.flashed then decideOwnFlash im x d else reportFlash x.trackId x.frame .none false d

/-- R104: a good return or a misfire of a frame reported. -/
def reportReturn (id : Byte) (k : Nat) (misfired : Bool) (d : Device) : Device :=
  closeIfSettled id
    (modifyFrame id k (fun x => { x with misfire := x.misfire || misfired, returnKnown := true }) d)

/-- An awaited return removed. -/
def removeAwaited (a : AwaitedReturn) (d : Device) : Device :=
  { d with fdu := { d.fdu with
      awaited := d.fdu.awaited.filter fun x => !(x.trackId == a.trackId && x.frame == a.frame) } }

/-- A return now falls in the window of an awaited return (R168). -/
def returnFits (now : Time) (a : AwaitedReturn) : Bool := !isBefore now (laterBy a.fired 5) && !isAfter now a.deadline

/-- R169: a return on FL_RET, credited to the earliest awaited return whose window holds it. -/
def takeReturn (d : Device) : Device :=
  match d.fdu.awaited.find? (returnFits d.clock) with
  | none => d
  | some a =>
    let d1 := reportReturn a.trackId a.frame false (removeAwaited a d)
    if d1.fdu.state = .idle then { d1 with fdu := { d1.fdu with misfires := 0 } } else d1

/-- R169: an awaited return's deadline expires: a misfire, which may lock the flash (R170). -/
def misfire (a : AwaitedReturn) (d : Device) : Device :=
  let d1 := reportReturn a.trackId a.frame true (removeAwaited a d)
  match d1.fdu.state with
  | .locked => d1
  | .idle =>
    let d2 := { d1 with fdu := { d1.fdu with misfires := d1.fdu.misfires + 1 } }
    if d2.fdu.misfires = 4 then replanAll (raise .flashLockout { d2 with fdu := { d2.fdu with state := .locked } })
    else d2

/-- R171: CLEAR_LOCKOUT for the flash. -/
def clearFlash (d : Device) : Device :=
  match d.fdu.state with
  | .locked => replanAll { d with fdu := { d.fdu with state := .idle, misfires := 0 } }
  | .idle => d

end Sys2Proof.Machine
end

