-- ==== Sys2Proof/Machine/Association.lean ====
section
/-! DEFINITION. Association of sightings and verify events with head tracks (chapter 5, 5.3; R83, R88, R90), re-prediction,
trim (R102), and the creation of tracks with eviction (R82, R96, R97). -/

namespace Sys2Proof.Machine

/-! ### Storing an input (R83) -/

/-- The mark of a sighting is that of another. -/
def sameMark (a b : Sighting) : Bool := a.station == b.station && a.pair == b.pair

/-- The sighting is that of another: same peer station, pair index and approach sequence. -/
def sameSighting (a b : Sighting) : Bool := sameMark a b && a.seq == b.seq

/-- R83: a sighting joins the end of the list; of two from one mark the earlier leaves, and of three the first. -/
def joinSightings (s : Sighting) (l : List Sighting) : List Sighting :=
  let kept := l.filter fun x => !sameMark x s
  (if 2 ≤ kept.length then kept.drop 1 else kept) ++ [s]

/-- R83: a sighting stored in a track. -/
def storeSighting (s : Sighting) (tr : Track) : Track :=
  { tr with sightings := joinSightings s tr.sightings, flags := { tr.flags with forced := tr.flags.forced || s.forced } }

/-- R83, R90: a verify event stored in a track, with its residual. -/
def storeVerify (e : VerifyEntry) (tr : Track) : Track :=
  { tr with
    verify := some e, residual := some (timeDiff (predictVerify .verified e).tPred tr.pred.tPred),
    flags := { tr.flags with forced := tr.flags.forced || e.forced } }

/-! ### Re-prediction (R84, R88, R89, R93, R95) -/

/-- STALE_SOURCE becomes yes when the prediction used such a sighting (R88, DEDUCED, log 19). -/
def markStale (stale : Bool) (tr : Track) : Track :=
  { tr with flags := { tr.flags with staleSource := tr.flags.staleSource || stale } }

/-- R93, R95: a track in PREDICTED or PLANNED re-predicted from its inputs: closed when out of reach, or else moved in
the list and its deadlines set again. -/
def repredict (id : Byte) (d : Device) : Device :=
  match findTrack d id, d.cfl.image with
  | some tr, some im =>
    match predict tr.sightings tr.verify with
    | none => d
    | some (p, stale) =>
      let tr1 := markStale stale tr
      if outOfReach im d.clock p then closeTrack .dropped .tooFar id (modifyTrack id (fun _ => tr1) d)
      else
        let d1 := placeTrack { tr1 with pred := p, missDeadline := some (missTime im p) } d
        match tr.state with
        | .predicted => enterHorizon id d1
        | .planned => planTrack id d1
        | .armed => d1
        | .exposing => d1
  | _, _ => d

/-! ### Trim (R102) -/

/-- R102: the prediction replaced, TRIM_CLAMPED, and the frames not yet pulsed moved by the clamped residual. -/
def trimmed (p : Prediction) (residual clamped : Int) (tr : Track) : Track :=
  { tr with
    pred := p,
    frames := tr.frames.map fun f => if f.pulsed then f else { f with pulse := shiftBy f.pulse clamped },
    flags := { tr.flags with trimClamped := tr.flags.trimClamped || clamped != residual } }

/-- R102: a verify event trims a track in ARMED; a pulse moved to a time already reached is then issued (R160). -/
def trimTrack (id : Byte) (d : Device) : Device :=
  match findTrack d id, d.cfl.image with
  | some tr, some im =>
    match predict tr.sightings tr.verify, tr.residual with
    | some (p, _), some residual =>
      let clamped := clampInt (-(im.trimLimit : Int)) im.trimLimit residual
      issuePulses (trimBurst id clamped (placeTrack (trimmed p residual clamped tr) d))
    | _, _ => d
  | _, _ => d

/-! ### Choosing a track (R92, R94) -/

/-- The best fit: the smallest difference, and of two equal the oldest track. -/
def bestFit (l : List (Track × Nat)) : Option (Track × Nat) :=
  l.foldl
    (fun best x => match best with
      | none => some x
      | some b => if x.2 < b.2 ∨ (x.2 = b.2 ∧ x.1.created < b.1.created) then some x else some b)
    none

/-- States in which a track takes a sighting (R92) or a verify event of the first stage (R94). -/
def beforeExposure : TrackState → Bool
  | .predicted => true
  | .planned => true
  | .armed => true
  | .exposing => false

/-- R92: the difference with which a track fits a new sighting, when it is a candidate and fits. -/
def sightingFit (s : Sighting) (tr : Track) : Option (Track × Nat) :=
  match tr.sightings.getLast? with
  | none => none
  | some last =>
    let travel := roundNat ((last.d - s.d) * 1000000) last.v
    let difference := (timeDiff s.t2 (laterBy last.t2 travel)).natAbs
    if tr.side = s.side ∧ beforeExposure tr.state = true ∧ sameMark last s = false ∧ s.d < last.d
        ∧ difference ≤ travel / 16 + 2000 then
      some (tr, difference)
    else none

/-- R94: the difference with which a track fits a verify event, when it fits. -/
def verifyFit (side : Side) (e : VerifyEntry) (tr : Track) : Option (Track × Nat) :=
  let expected := shiftBy tr.pred.tPred (-(roundNat (e.d * 1000000) tr.pred.vg : Int))
  let difference := (timeDiff e.t2 expected).natAbs
  if tr.side = side ∧ difference ≤ 2 * tr.pred.tol + 2000 then some (tr, difference) else none

/-- R94: the track a verify event matches, in its two stages. -/
def verifyMatch (side : Side) (e : VerifyEntry) (tracks : List Track) : Option (Track × Nat) :=
  match bestFit ((tracks.filter fun tr => beforeExposure tr.state).filterMap (verifyFit side e)) with
  | some x => some x
  | none => bestFit ((tracks.filter fun tr => !beforeExposure tr.state).filterMap (verifyFit side e))

/-! ### Creation and eviction (R82, R96, R97) -/

/-- R82: the counter advanced, at most `steps` times, to a value that no live entry holds. -/
def freeId (held : List Byte) : Nat → Byte → Byte
  | 0, c => c
  | k + 1, c => if held.contains c then freeId held k (c + 1#8) else c

/-- A newcomer with its inputs and prediction, before it has an id (R96). -/
def newcomer (side : Side) (sightings : List Sighting) (verify : Option VerifyEntry) (p : Prediction) (stale : Bool) :
    Track :=
  { id := 0#8, created := 0, side := side, sightings := sightings, verify := verify, pred := p, planHorizon := none,
    missDeadline := none, armPoint := none, plan := none, frames := [], claimStatus := .none, residual := none,
    state := .predicted,
    flags := { noFlags with
      forced := sightings.any (·.forced) || verify.any (·.forced), staleSource := stale },
    reference := none, announced := none }

/-- R96: a newcomer created: id, creation order, miss deadline, its place, and its horizon (R98). -/
def createTrack (im : Image) (tr : Track) (d : Device) : Device :=
  let id := freeId (d.htk.tracks.map (·.id)) 16 d.htk.nextId
  let entry := { tr with id := id, created := d.htk.nextCreated, missDeadline := some (missTime im tr.pred) }
  enterHorizon id { d with htk := { d.htk with
    tracks := insertTrack entry d.htk.tracks, nextId := id + 1#8, nextCreated := d.htk.nextCreated + 1 } }

/-- R97: the victim for a newcomer: in PREDICTED or PLANNED, later than the newcomer, the latest, and of two equal the
one created later. -/
def trackVictim (tr : Track) (tracks : List Track) : Option Track :=
  (tracks.filter fun x => (x.state == .predicted || x.state == .planned) && isAfter x.pred.tPred tr.pred.tPred).foldl
    (fun best x => match best with
      | none => some x
      | some b => if aheadOf b x then some x else some b)
    none

/-- The too-far count incremented (R96). -/
def countTooFar (d : Device) : Device := { d with htk := { d.htk with tooFar := min 65535 (d.htk.tooFar + 1) } }

/-- R96, R97: an input that matches no track. -/
def newTrack (side : Side) (sightings : List Sighting) (verify : Option VerifyEntry) (d : Device) : Device :=
  match predict sightings verify, d.cfl.image with
  | some (p, stale), some im =>
    let tr := newcomer side sightings verify p stale
    if outOfReach im d.clock p then countTooFar d
    else if d.htk.tracks.length < 16 then createTrack im tr d
    else
      match trackVictim tr d.htk.tracks with
      | some v => createTrack im tr (closeTrack .dropped .evicted v.id d)
      | none => offerCapture (captureRecord (ownTrack d) .dropped .evicted tr) d
  | _, _ => d

/-! ### Inputs (R91 to R95) -/

/-- R91 to R93, R96: a sighting taken by the Head Tracker. -/
def takeSighting (s : Sighting) (d : Device) : Device :=
  if d.htk.tracks.any (fun tr => tr.sightings.any (sameSighting s)) then d
  else
    match bestFit (d.htk.tracks.filterMap (sightingFit s)) with
    | none => newTrack s.side [s] none d
    | some (tr, _) =>
      let d1 := modifyTrack tr.id (storeSighting s) d
      if tr.state = .armed then d1 else repredict tr.id d1

/-- R94 to R96, R102: a verify event taken by the Head Tracker. -/
def takeVerify (track : Nat) (side : Side) (e : VerifyEntry) (d : Device) : Device :=
  if track ≠ ownTrack d then d
  else
    match verifyMatch side e d.htk.tracks with
    | none => newTrack side [] (some e) d
    | some (tr, _) =>
      let d1 := modifyTrack tr.id (storeVerify e) d
      match tr.state with
      | .predicted => repredict tr.id d1
      | .planned => repredict tr.id d1
      | .armed => trimTrack tr.id d1
      | .exposing => d1

end Sys2Proof.Machine
end

