-- ==== Sys2Proof/Machine/Curtains.lean ====
section
/-! DEFINITION. The Curtain Interface Unit (chapter 1): beam conditioning, curtain breaks, the pair sequencer, and where
its reports go. -/

namespace Sys2Proof.Machine

/-! ### Conditioned levels (R4) -/

/-- R4: usable. -/
def usable (b : Beam) : Bool := b.forceMask || !b.masked

/-- R4: usable, with conditioned level INTERRUPTED. -/
def interrupted (b : Beam) : Bool := if b.forceMask then b.forcePattern else !b.masked && b.raw

/-- Masked and unforced. -/
def maskedUnforced (b : Beam) : Bool := b.masked && !b.forceMask

/-- The set of a curtain's beams with a property; bit i stands for beam i. -/
def beamSet (f : Beam → Bool) (c : Curtain) : Byte :=
  c.beams.toList.foldr (fun b acc => (acc <<< 1) ||| boolByte (f b)) 0#8

/-- The number of a curtain's beams with a property: the interrupted count and the usable count (1.3). -/
def beamCount (f : Beam → Bool) (c : Curtain) : Nat := (c.beams.toList.filter f).length

/-- A beam of a curtain port changed. -/
def modifyBeam (c : Fin 4) (i : Fin 8) (f : Beam → Beam) (d : Device) : Device :=
  setCurtain c { curtain d c with beams := (curtain d c).beams.set i.val (f ((curtain d c).beams.get i)) i.isLt } d

/-! ### Speed and height (R17, R18) -/

/-- R17: the speed and CLAMPED. -/
def passageSpeed (b : Nat) (t1 t2 : Time) : Nat × Bool :=
  let dt := (t2 - t1).toNat
  if dt = 0 then (120000, true)
  else if 120000 < roundNat (b * 1000000) dt then (120000, true)
  else (roundNat (b * 1000000) dt, false)

/-- The beams of the height union: in the break beam set, with a configured height that is not 0 (R18). -/
def heightUnion (heights : List Nat) (beams : Byte) : List Nat :=
  (List.range 8).filter fun i => beams.getLsbD i && heights.getD i 0 != 0

/-- R18: the height band and PARTIAL_HEIGHT. -/
def heightBand (heights : List Nat) (beams masked : Byte) : Option (Nat × Nat) × Bool :=
  match heightUnion heights beams with
  | [] => (none, false)
  | i :: rest =>
    let h := fun (k : Nat) => heights.getD k 0
    let top := rest.getLastD i
    (some (rest.foldl (fun m k => min m (h k)) (h i), rest.foldl (fun m k => max m (h k)) (h i)),
     (List.range 8).any fun k => masked.getLsbD k && decide (i ≤ k + 1) && decide (k ≤ top + 1))

/-! ### Reports (R21, R22, TABLE 1-6) -/

/-- An approaching passage event (R21, R22). In the camera role the verify event is taken before the SIGHTING request
(DESIGN CHOICE, log 32). -/
def emitApproaching (p : Fin 2) (pc : PairConfig) (t1 t2 : Time) (v : Nat × Bool) (band : Option (Nat × Nat) × Bool)
    (seq : Byte) (forced : Bool) (d : Device) : Device :=
  let contents : SightingContents :=
    { pair := p, track := pc.track, seq := seq, v := v.1, band := band.1, clamped := v.2, partialHeight := band.2,
      forced := forced, t2 := t2 }
  if isCamera d then
    requestSighting contents
      (takeVerify pc.track pc.side
        { d := pc.d, t2 := t2, v := v.1, band := band.1, partialHeight := band.2, forced := forced } d)
  else
    offerSighting
      { passage := 0#24, pair := p, direction := .approaching, t1 := t1, t2v := some (t2, v.1), band := band.1,
        clamped := v.2, partialHeight := band.2, forced := forced }
      (requestSighting contents d)

/-- A departing report (R21, R22). -/
def emitDeparting (p : Fin 2) (t1 t2 : Time) (v : Nat × Bool) (forced : Bool) (d : Device) : Device :=
  if isCamera d then d
  else
    offerSighting
      { passage := 0#24, pair := p, direction := .departing, t1 := t1, t2v := some (t2, v.1), band := none, clamped := v.2,
        partialHeight := false, forced := forced } d

/-- An orphan (R21, R22). -/
def emitOrphan (p : Fin 2) (t1 : Time) (forced : Bool) (d : Device) : Device :=
  if isCamera d then d
  else
    offerSighting
      { passage := 0#24, pair := p, direction := .orphan, t1 := t1, t2v := none, band := none, clamped := false,
        partialHeight := false, forced := forced } d

/-! ### The pair sequencer (R12 to R16, R19, R20) -/

/-- A sequencer changed. -/
def modifySequencer (p : Fin 2) (f : Sequencer → Sequencer) (d : Device) : Device :=
  setSequencer p (f (sequencer d p)) d

/-- Any beam of either curtain of the pair has its force mask set (R12, R20). -/
def anyForced (d : Device) (p : Fin 2) : Bool :=
  (curtain d (outerOf p)).beams.toList.any (·.forceMask) || (curtain d (innerOf p)).beams.toList.any (·.forceMask)

/-- Return to IDLE (R14 to R16); the approach sequence and forced seen stay. -/
def idled (s : Sequencer) : Sequencer :=
  { s with state := .idle, t1 := none, t2 := none, orphanDeadline := none, expiryHeld := false, pendingOuter := none }

/-- Entry to OUTER or DEPARTING with a new t1 (R12, R13, R15). -/
def entered (state : SequencerState) (t1 : Time) (limit : Nat) (forced : Bool) (s : Sequencer) : Sequencer :=
  { s with
    state := state, t1 := some t1, t2 := none, orphanDeadline := some (laterBy t1 limit), expiryHeld := false,
    pendingOuter := none, forcedSeen := forced }

/-- R1. -/
def orphanLimit (pc : PairConfig) : Nat := pc.b * 2000

/-- Entry to OUTER or DEPARTING (R12). -/
def enterSequence (p : Fin 2) (pc : PairConfig) (state : SequencerState) (t1 : Time) (d : Device) : Device :=
  modifySequencer p (entered state t1 (orphanLimit pc) (anyForced d p)) d

/-- The passage in hand of OUTER becomes an orphan (R13, R14). -/
def orphanInHand (p : Fin 2) (d : Device) : Device :=
  match (sequencer d p).t1 with
  | some t1 => emitOrphan p t1 (sequencer d p).forcedSeen d
  | none => d

/-- R14, R16: the orphan deadline expires. -/
def orphanExpires (p : Fin 2) (d : Device) : Device :=
  match (sequencer d p).state with
  | .outer =>
    if (curtain d (innerOf p)).breakState = .pending then
      modifySequencer p (fun s => { s with orphanDeadline := none, expiryHeld := true }) d
    else modifySequencer p idled (orphanInHand p d)
  | .departing =>
    if (curtain d (outerOf p)).breakState = .pending then
      modifySequencer p (fun s => { s with orphanDeadline := none, expiryHeld := true }) d
    else modifySequencer p idled d
  | .idle => d
  | .inner => d

/-- t2 supplied: the orphan deadline and the held expiry go (R13, R16). -/
def secondBreak (state : SequencerState) (t2 : Time) (s : Sequencer) : Sequencer :=
  { s with state := state, t2 := some t2, orphanDeadline := none, expiryHeld := false }

/-- A valid outer break with time t (R12, R13, R15, R16). -/
def outerBreak (p : Fin 2) (pc : PairConfig) (t : Time) (d : Device) : Device :=
  match (sequencer d p).state with
  | .idle => enterSequence p pc .outer t d
  | .outer => enterSequence p pc .outer t (orphanInHand p d)
  | .inner =>
    modifySequencer p (fun s => { s with pendingOuter := some t })
      (match (sequencer d p).pendingOuter with
        | some old => emitOrphan p old (sequencer d p).forcedSeen d
        | none => d)
  | .departing =>
    match (sequencer d p).t2 with
    | none => modifySequencer p (secondBreak .departing t) d
    | some _ => d

/-- A valid inner break with time t (R12, R13, R15, R16). -/
def innerBreak (p : Fin 2) (pc : PairConfig) (t : Time) (d : Device) : Device :=
  match (sequencer d p).state with
  | .idle => enterSequence p pc .departing t d
  | .outer => modifySequencer p (secondBreak .inner t) d
  | .inner => d
  | .departing =>
    match (sequencer d p).t2 with
    | none =>
      modifySequencer p
        (fun s => { s with t1 := some t, orphanDeadline := some (laterBy t (orphanLimit pc)), expiryHeld := false }) d
    | some _ => d

/-- An outer break end: it completes a departing passage whose t2 is present (R12, R13, R15, R16). -/
def outerEnd (p : Fin 2) (pc : PairConfig) (d : Device) : Device :=
  let s := sequencer d p
  match s.state, s.t1, s.t2 with
  | .departing, some t1, some t2 =>
    modifySequencer p idled (emitDeparting p t1 t2 (passageSpeed pc.b t1 t2) s.forcedSeen d)
  | _, _, _ => d

/-- R15: what follows an approaching passage: IDLE, or OUTER from the pending outer time, whose deadline may already
have passed. -/
def afterPassage (p : Fin 2) (pc : PairConfig) (pendingOuter : Option Time) (d : Device) : Device :=
  match pendingOuter with
  | none => modifySequencer p idled d
  | some t1 =>
    let d1 := enterSequence p pc .outer t1 d
    if isBefore (laterBy t1 (orphanLimit pc)) d1.clock then orphanExpires p d1 else d1

/-- An inner break end, with the break's beam sets: it completes an approaching passage in INNER (R12, R13, R15,
R16). -/
def innerEnd (p : Fin 2) (pc : PairConfig) (beams masked : Byte) (d : Device) : Device :=
  let s := sequencer d p
  match s.state, s.t1, s.t2 with
  | .inner, some t1, some t2 =>
    let d1 := emitApproaching p pc t1 t2 (passageSpeed pc.b t1 t2) (heightBand pc.heights beams masked) s.approachSeq
      s.forcedSeen d
    afterPassage p pc s.pendingOuter (modifySequencer p (fun x => { x with approachSeq := x.approachSeq + 1#8 }) d1)
  | _, _, _ => d

/-- An ignored break of a curtain: it settles a held expiry (R14, R16). -/
def breakIgnored (c : Fin 4) (d : Device) : Device :=
  let p := pairOf c
  if !(sequencer d p).expiryHeld then d
  else
    match (sequencer d p).state, isOuter c with
    | .outer, false => modifySequencer p idled (orphanInHand p d)
    | .departing, true => modifySequencer p idled d
    | _, _ => d

/-! ### Curtain breaks (R8 to R11) -/

/-- A break begins (R8). -/
def breakBegun (now : Time) (minBreak : Nat) (c : Curtain) : Curtain :=
  { c with
    breakState := .pending, breakStart := some now, validationDeadline := some (laterBy now minBreak),
    breakBeams := beamSet interrupted c, breakMasked := beamSet maskedUnforced c }

/-- A curtain back in CLEAR (R9, R10). -/
def breakCleared (c : Curtain) : Curtain :=
  { c with
    breakState := .clear, breakStart := none, validationDeadline := none, breakBeams := 0#8, breakMasked := 0#8 }

/-- R8: beams join the sets of a break in progress. -/
def setsJoined (c : Curtain) : Curtain :=
  match c.breakState with
  | .clear => c
  | .pending | .broken =>
    { c with
      breakBeams := c.breakBeams ||| beamSet interrupted c, breakMasked := c.breakMasked ||| beamSet maskedUnforced c }

/-- R11: the dead flag worked out again; CURTAIN_DEAD on entry. -/
def judgeDead (c : Fin 4) (minBeams : Nat) (d : Device) : Device :=
  let cu := curtain d c
  let dead := decide (beamCount usable cu < minBeams)
  let d1 := setCurtain c { cu with dead := dead } d
  if dead && !cu.dead then raise .curtainDead d1 else d1

/-- R8 to R10: the break state follows the interrupted count. -/
def judgeBreak (c : Fin 4) (pc : PairConfig) (d : Device) : Device :=
  let cu := curtain d c
  let reached := decide (pc.minBeams ≤ beamCount interrupted cu)
  match cu.breakState, reached with
  | .clear, true => setCurtain c (breakBegun d.clock pc.minBreak cu) d
  | .clear, false => d
  | .pending, true => d
  | .pending, false => breakIgnored c (setCurtain c (breakCleared cu) d)
  | .broken, true => d
  | .broken, false =>
    let d1 := setCurtain c (breakCleared cu) d
    if isOuter c then outerEnd (pairOf c) pc d1 else innerEnd (pairOf c) pc cu.breakBeams cu.breakMasked d1

/-- The counts of a curtain formed again, at one instant, after its beams have changed (R4, R7 to R11); nothing on a
disabled pair (R2). A beam masked or interrupted by the change joins the break's sets before an end of the
break by the same change is judged (DEDUCED, log 17). -/
def curtainChanged (c : Fin 4) (d : Device) : Device :=
  match enabledPair d (pairOf c) with
  | none => d
  | some pc => judgeBreak c pc (judgeDead c pc.minBeams (setCurtain c (setsJoined (curtain d c)) d))

/-! ### Beams (R2, R3, R5 to R7, R20) -/

/-- The stuck limit in µs (R1). -/
def stuckMicros (d : Device) : Nat := d.cfl.image.elim 0 (·.stuckLimit) * 1000

/-- R5, R6: the timing of a beam whose raw level has become `level`. -/
def rawTiming (now : Time) (stuck : Nat) (level : Bool) (b : Beam) : Beam :=
  match b.masked, level with
  | false, true => { b with stuckDeadline := some (laterBy now stuck) }
  | false, false => { b with stuckDeadline := none }
  | true, true => { b with unmaskDeadline := none }
  | true, false => { b with unmaskDeadline := some (laterBy now 1000000) }

/-- R3, R5, R6: a change at a beam's input. -/
def rawChange (c : Fin 4) (i : Fin 8) (level : Bool) (d : Device) : Device :=
  let b := (curtain d c).beams.get i
  if b.raw = level then d
  else if stationWorks d && (enabledPair d (pairOf c)).isSome then
    curtainChanged c (modifyBeam c i (fun x => rawTiming d.clock (stuckMicros d) level { x with raw := level }) d)
  else modifyBeam c i (fun x => { x with raw := level }) d

/-- R5: a beam's stuck deadline expires. -/
def stuckExpires (c : Fin 4) (i : Fin 8) (d : Device) : Device :=
  if due ((curtain d c).beams.get i).stuckDeadline d.clock then
    curtainChanged c (raise .beamMasked
      (modifyBeam c i (fun b => { b with stuckDeadline := none, masked := true, unmaskDeadline := none }) d))
  else d

/-- R6: a beam's unmask deadline expires. -/
def unmaskExpires (c : Fin 4) (i : Fin 8) (d : Device) : Device :=
  if due ((curtain d c).beams.get i).unmaskDeadline d.clock then
    curtainChanged c (raise .beamUnmasked
      (modifyBeam c i (fun b => { b with unmaskDeadline := none, masked := false }) d))
  else d

/-- R9: a curtain's validation deadline expires. -/
def validationExpires (c : Fin 4) (d : Device) : Device :=
  let cu := curtain d c
  match due cu.validationDeadline d.clock, cu.breakStart, enabledPair d (pairOf c) with
  | true, some start, some pc =>
    let d1 := setCurtain c { cu with breakState := .broken, validationDeadline := none } d
    if isOuter c then outerBreak (pairOf c) pc start d1 else innerBreak (pairOf c) pc start d1
  | _, _, _ => d

/-- R7: the force masks and patterns of a curtain's beams replaced. -/
def forced (mask pattern : Byte) (c : Curtain) : Curtain :=
  { c with beams := Vector.ofFn fun i =>
      { c.beams.get i with forceMask := mask.getLsbD i.val, forcePattern := pattern.getLsbD i.val } }

/-- R7, R20: FORCE_BEAMS on a curtain. -/
def forceCurtain (c : Fin 4) (mask pattern : Byte) (d : Device) : Device :=
  let d1 := setCurtain c (forced mask pattern (curtain d c)) d
  let p := pairOf c
  let seen := (sequencer d1 p).state != .idle && anyForced d1 p
  curtainChanged c (if seen then modifySequencer p (fun s => { s with forcedSeen := true }) d1 else d1)

/-- R2: stuck timing begins for the beams of an enabled pair's curtain that are interrupted. -/
def beginStuck (now : Time) (stuck : Nat) (b : Beam) : Beam :=
  if b.raw then { b with stuckDeadline := some (laterBy now stuck) } else b

/-- R2: evaluation of one curtain begins. -/
def evaluateCurtain (c : Fin 4) (d : Device) : Device :=
  if (enabledPair d (pairOf c)).isSome then
    curtainChanged c (setCurtain c
      { curtain d c with beams := mapVec (beginStuck d.clock (stuckMicros d)) (curtain d c).beams } d)
  else d

/-- R2: evaluation begins from the beam inputs as they stand. -/
def startEvaluation (d : Device) : Device := forEach [0, 1, 2, 3] evaluateCurtain d

end Sys2Proof.Machine
end

