-- ==== Sys2Proof/Machine/Peers.lean ====
section
/-! DEFINITION. The Peer Table (chapter 4): presence and freshness, sighting acceptance, and the verify sides. -/

namespace Sys2Proof.Machine

/-! ### Presence and freshness (R65 to R68) -/

/-- The entry a PRESENCE leaves (R65). -/
def presentEntry (f : PresenceFrame) (mark : Time) : PeerEntry :=
  { state := .present, role := some f.role, period := some f.period, lastPresence := some mark,
    staleDeadline := some (laterBy mark (2 * f.period * 1000)), lostDeadline := some (laterBy mark (8 * f.period * 1000)),
    marks := f.marks, flashLockout := f.flashLockout, cameraLockout := f.cameraLockout }

/-- A PRESENCE from this entry's station raises PEER_NEW (R66). -/
def isNews : PeerState → Bool
  | .absent => true
  | .lost => true
  | .present => false
  | .stale => false

/-- R65, R66: a PRESENCE taken from station p. -/
def takePresence (p : Nat) (f : PresenceFrame) (mark : Time) (d : Device) : Device :=
  let d1 := setPeer p (presentEntry f mark) d
  if isNews (peer d p).state then raise .peerNew d1 else d1

/-- R67: a stale deadline expires. -/
def staleExpires (p : Nat) (d : Device) : Device :=
  if (peer d p).state = .present ∧ due (peer d p).staleDeadline d.clock = true then
    setPeer p { peer d p with state := .stale, staleDeadline := none } d
  else d

/-- R68: a lost deadline expires. -/
def lostExpires (p : Nat) (d : Device) : Device :=
  if (peer d p).state = .stale ∧ due (peer d p).lostDeadline d.clock = true then
    raise .peerLost (setPeer p { peer d p with state := .lost, lostDeadline := none } d)
  else d

/-! ### Sighting acceptance (R71 to R73) -/

/-- R71, R73: the mark with which a sighting is accepted, and STALE_SOURCE. -/
def acceptSighting (e : PeerEntry) (pair : Fin 2) (track : Nat) : Option (Mark × Bool) :=
  match e.state with
  | .absent => none
  | .lost => none
  | .present => (e.marks.find? fun m => m.pair == pair && m.track == track).map fun m => (m, false)
  | .stale => (e.marks.find? fun m => m.pair == pair && m.track == track).map fun m => (m, true)

/-! ### Verify sides (R75) -/

/-- A pair's D, when it is enabled on a track and side. -/
def verifyPairD (track : Nat) (side : Side) (pc : PairConfig) : Option Nat :=
  if pc.enabled = true ∧ pc.track = track ∧ pc.side = side then some pc.d else none

/-- R75: the own verify D of a side; none when it is no verify side. -/
def verifySide (im : Image) (side : Side) : Option Nat :=
  match verifyPairD im.ownTrack side im.pair0, verifyPairD im.ownTrack side im.pair1 with
  | some x, some y => some (max x y)
  | some x, none => some x
  | none, y => y

/-- R75: the verify sides fixed at entry to LISTENING, in the camera role. -/
def fixVerifySides (im : Image) (d : Device) : Device :=
  if isCamera d then
    { d with ptb := { d.ptb with verifyUp := verifySide im .up, verifyDown := verifySide im .down } }
  else d

end Sys2Proof.Machine
end

