-- ==== Sys2Proof/Machine/Line.lean ====
section
/-! DEFINITION. The Line Interface Unit (chapter 2) with Frame Exchange's receive dispatch and outcomes (chapter 3, 3.3
and 3.4): transitions, jabber, judgement of the two copies, the transmitter, and entry to SILENT. -/

namespace Sys2Proof.Machine

/-! ### Copies (R37) -/

/-- A copy with a fault noted: it is BAD, and gathering stops (R37). -/
def noteFault (c : Copy) : Copy := { c with noted := true }

/-- R37: the start delimiter ends at `m`. A transition of the busy period before the delimiter, which is 8 µs long, is
noted (DEDUCED, log 7). -/
def copyBegun (m : Time) (c : Copy) : Copy :=
  { c with
    progress := .receiving, mark := some m, noted := c.noted || c.firstSeen.any (fun f => isBefore f (shiftBy m (-8))) }

/-- R37: a bit gathered; the 64 bytes of a body and the 16 bits of its CRC are the most a copy holds. -/
def gatherBit (b : Bool) (c : Copy) : Copy :=
  if c.bits.length < 528 then { c with bits := c.bits ++ [b] } else noteFault c

/-- R37, R200: one bit time heard on a pair. Before the delimiter its symbols are counted, and a J or K outside it is
noted; after it, 0 and 1 are gathered, and the first J or K, of a second delimiter or not, is noted. -/
def hearSymbol (c : Copy) (x : LineSymbol) : Copy :=
  if c.noted then c
  else
    match c.progress, codeOfLevels x.firstHalf x.secondHalf with
    | .ended, _ => c
    | .none, code =>
      match delimiterStep c.matched code with
      | some m => if m = startDelimiter.length then copyBegun x.ends c else { c with matched := m }
      | none => noteFault c
    | .receiving, .zero => gatherBit false c
    | .receiving, .one => gatherBit true c
    | .receiving, .j => noteFault c
    | .receiving, .k => noteFault c

/-- A transition at `now` with the bit times heard since the one before (DESIGN CHOICE, log 6). -/
def hearTransition (now : Time) (heard : List LineSymbol) (c : Copy) : Copy :=
  heard.foldl hearSymbol { c with firstSeen := some (c.firstSeen.getD now) }

/-! ### Activity and jabber (R27, R28) -/

/-- A busy period begins: the line BUSY, the quiet deadline 10 µs ahead (DEDUCED, log 9), both copies NONE (R27, R37). -/
def beginBusy (d : Device) : Device :=
  { d with liu := { d.liu with
      busy := true, quietDeadline := some (laterBy d.clock 10),
      pairA := { d.liu.pairA with copy := Copy.fresh (d.liu.pairA.condition == .jabbering) },
      pairB := { d.liu.pairB with copy := Copy.fresh (d.liu.pairB.condition == .jabbering) },
      ownDrive := if d.liu.transmitter = .send then .driving else .nothing } }

/-- R27, R30: the line state after a transition on a NORMAL pair. -/
def lineActive (d : Device) : Device :=
  if d.liu.busy then { d with liu := { d.liu with quietDeadline := some (laterBy d.clock 10) } }
  else
    let d1 := beginBusy d
    if d1.liu.transmitter = .defer then transmitterWaits d1 else d1

/-- R28: the activity start after a transition on a NORMAL pair: the first transition after 10 µs without one, or the
start of watching when the pair shows one within 10 µs of it. -/
def activityFrom (now : Time) (x : PairState) : Option Time :=
  match x.activityStart with
  | some a => some a
  | none => some (x.silenceFrom.getD now)

/-- A transition on a pair (R27, R28, R37). -/
def takeTransition (p : LinePair) (heard : List LineSymbol) (d : Device) : Device :=
  let x := linePair d p
  if !stationWorks d then d
  else
    match x.condition with
    | .jabbering => setLinePair p { x with silenceFrom := some d.clock } d
    | .normal =>
      let d1 := lineActive
        (setLinePair p { x with silenceFrom := some d.clock, activityStart := activityFrom d.clock x } d)
      setLinePair p { linePair d1 p with copy := hearTransition d.clock heard (linePair d1 p).copy } d1

/-- The pair has shown no transition in the last 10 µs (R28). -/
def silent10 (now : Time) (x : PairState) : Bool :=
  match x.silenceFrom with
  | some w => !isAfter (laterBy w 10) now
  | none => true

/-- R28, R37: 10 µs have passed without a transition on a pair; a copy that has begun is closed (DEDUCED, log 8). -/
def quietPair (x : PairState) : PairState :=
  { x with
    condition := .normal, activityStart := none, silenceFrom := none,
    copy := if x.copy.progress = .receiving then { x.copy with progress := .ended } else x.copy }

/-- R28: PAIR_QUIET. -/
def takeQuiet (p : LinePair) (d : Device) : Device :=
  if due ((linePair d p).silenceFrom.map fun w => laterBy w 10) d.clock then
    setLinePair p (quietPair (linePair d p)) d
  else d

/-! ### Judgement (R38 to R41) -/

/-- The body of a gathered copy, when it is whole bytes with a CRC that agrees and the body agrees with its kind
(R38, R200). -/
def copyBody (bits : List Bool) : Option (List Byte) :=
  let bytes := gatherBytes bits
  let body := bytes.take (bytes.length - 2)
  if bits.length % 8 = 0 ∧ 3 ≤ bytes.length ∧ (lineCrc body).toNat = numberOf (bytes.drop (bytes.length - 2))
      ∧ bodyAgrees body = true then
    some body
  else none

/-- R38: the readback of a frame this station drove and did not cut counts; that of a cut frame does not (R33, DEDUCED, log 11). -/
def readbackFails (drive : OwnDrive) (x : PairState) : Bool :=
  match drive with
  | .nothing => false
  | .cut => false
  | .driving => !x.readbackMatch
  | .sent => !x.readbackMatch

/-- R38: a copy judged, with the frame mark and body of a GOOD one. Any copy of a pair that jabbered or failed readback
is BAD, begun or not (R32). -/
def judgeCopy (drive : OwnDrive) (x : PairState) : Judgement × Option (Time × List Byte) :=
  if x.copy.jabbered || readbackFails drive x then (.bad, none)
  else
    match x.copy.mark with
    | none => (if x.copy.noted then .bad else .absent, none)
    | some m =>
      if x.copy.noted then (.bad, none)
      else
        match copyBody x.copy.bits with
        | some body => (.good, some (m, body))
        | none => (.bad, none)

/-- R40. -/
def nextQuality (own other : Judgement) (q : Nat) : Nat :=
  match own, other with
  | .good, _ => q - 1
  | .bad, .good => min 255 (q + 8)
  | .absent, .good => min 255 (q + 8)
  | .bad, _ => q
  | .absent, _ => q

/-- The quality counter of a pair. -/
def qualityOf (d : Device) (p : LinePair) : Nat := (linePair d p).quality

/-- R41: the preferred pair moves to the other one. -/
def judgePreference (d : Device) : Device :=
  let p := d.liu.preferred
  if 64 ≤ qualityOf d p ∧ qualityOf d (otherPair p) + 32 ≤ qualityOf d p then
    raise .lineSwitchover { d with liu := { d.liu with preferred := otherPair p } }
  else d

/-- R40: both counters updated. -/
def updateQuality (a b : Judgement) (d : Device) : Device :=
  { d with liu := { d.liu with
      pairA := { d.liu.pairA with quality := nextQuality a b d.liu.pairA.quality },
      pairB := { d.liu.pairB with quality := nextQuality b a d.liu.pairB.quality } } }

/-- R39: the copy accepted, tried first on the preferred pair. -/
def chooseCopy (preferred : LinePair) (a b : Option (Time × List Byte)) : Option (Time × List Byte) :=
  match preferred with
  | .a => a.orElse fun _ => b
  | .b => b.orElse fun _ => a

/-! ### Receive dispatch (R60 to R62) -/

/-- R61: a frame of another station handed on. -/
def handOn (station : Nat) (mark : Time) (frame : ReceivedFrame) (d : Device) : Device :=
  match frame with
  | .presence f => takePresence station f mark d
  | .sighting f =>
    match acceptSighting (peer d station) f.pair f.track with
    | none => d
    | some (m, stale) =>
      if isCamera d ∧ f.track = ownTrack d then
        takeSighting
          { station := station, pair := f.pair, d := m.d, side := m.side, seq := f.seq,
            t2 := shiftBy mark (-(f.age : Int)), v := f.v, band := f.band, partialHeight := f.partialHeight,
            forced := f.forced, staleSource := stale } d
      else d
  | .claim f =>
    if isCamera d then takeClaim { station := station, trackId := f.trackId } f (laterBy mark f.lead) d else d
  | .release id => if isCamera d then removeClaim { station := station, trackId := id } d else d

/-- R62: an own frame heard back. -/
def handOnOwn (mark : Time) (frame : ReceivedFrame) (d : Device) : Device :=
  match frame with
  | .claim f => claimHeardBack f.trackId (laterBy mark f.lead) d
  | .presence _ => d
  | .sighting _ => d
  | .release _ => d

/-! ### Entry to SILENT (R36, R43, R59, R197) -/

/-- R36: the transmitter at entry to SILENT. -/
def silenceTransmitter (d : Device) : Device :=
  { d with liu := { d.liu with
      transmitter := .empty, waitOrigin := none, slotEnd := none, frameInHand := none, collisions := 0, collided := none,
      driven := none, ownDrive := if d.liu.ownDrive = .driving then .cut else d.liu.ownDrive } }

/-- R197: entry to SILENT from LISTENING or RUNNING. -/
def enterSilent (d : Device) : Device :=
  let entries := d.fx.queue
  let d1 := silenceTransmitter
    { d with
      cfl := { d.cfl with station := .silent, listeningDeadline := none },
      fx := { d.fx with queue := [], presenceDeadline := none } }
  forEach entries (reportDropped .flushed) d1

/-- R43: a clash. -/
def takeClash (d : Device) : Device :=
  match d.cfl.station with
  | .listening => enterSilent (raise .clash d)
  | .running => enterSilent (raise .clash d)
  | .silent => raise .clash d
  | .loading => d
  | .configFault => d

/-- R42 to R44: the accepted copy classified and handed on. -/
def dispatchFrame (mark : Time) (body : List Byte) (d : Device) : Device :=
  if frameStation body = ownNumber d then
    if d.liu.ownDrive = .sent then
      match readFrame body with
      | some f => handOnOwn mark f d
      | none => d
    else takeClash d
  else
    match readFrame body with
    | some f => handOn (frameStation body) mark f d
    | none => d

/-! ### The idle instant (R27, R29, R38 to R44) -/

/-- The transmitter takes the idle instant as its wait origin (R29). -/
def takeIdle (d : Device) : Device :=
  let d1 := { d with liu := { d.liu with quietDeadline := none, busy := false } }
  if d1.liu.transmitter = .waitIdle then transmitterDefers d1 else d1

/-- The idle instant ends the busy period. -/
def idleInstant (d : Device) : Device :=
  let a := judgeCopy d.liu.ownDrive d.liu.pairA
  let b := judgeCopy d.liu.ownDrive d.liu.pairB
  let d1 := judgePreference (updateQuality a.1 b.1 (takeIdle d))
  match chooseCopy d.liu.preferred a.2 b.2 with
  | some (mark, body) => dispatchFrame mark body d1
  | none => d1

/-- R27: the quiet deadline expires. -/
def quietExpires (d : Device) : Device := if due d.liu.quietDeadline d.clock then idleInstant d else d

/-- R28: a NORMAL pair that has held an activity start for 1,000 µs becomes JABBERING. Beside a pair that has shown no
transition in the last 10 µs, the instant that pair last showed one plus 10 µs has passed, and the quiet deadline
expires at once (DEDUCED, log 10). -/
def takeJabber (p : LinePair) (d : Device) : Device :=
  let x := linePair d p
  if x.condition = .normal ∧ due (x.activityStart.map fun a => laterBy a 1000) d.clock = true then
    let d1 := setLinePair p { x with condition := .jabbering, copy := { x.copy with jabbered := true } } d
    if silent10 d.clock (linePair d (otherPair p)) && d.liu.quietDeadline.isSome then idleInstant d1 else d1
  else d

/-! ### The transmitter (R30 to R35, R55 to R57) -/

/-- The frame driven for a body started now (R26): its mark 8 µs ahead, one µs for each bit of body and CRC. -/
def drivenFrame (now : Time) (body : List Byte) : DrivenFrame :=
  { mark := laterBy now 8, body := body, crc := lineCrc body, ends := laterBy now (8 + 8 * body.length + 16) }

/-- R31: a supplied frame started. A busy period begins with it (DEDUCED, log 9). -/
def startFrame (e : QueueEntry) (body : List Byte) (d : Device) : Device :=
  let same := d.liu.collided == some e.order
  let d1 := { d with liu := { d.liu with
    transmitter := .send, waitOrigin := none, slotEnd := none, frameInHand := some e.order,
    collisions := if same then d.liu.collisions else 0, collided := if same then d.liu.collided else none,
    driven := some (drivenFrame d.clock body),
    pairA := { d.liu.pairA with readbackMatch := true }, pairB := { d.liu.pairB with readbackMatch := true } } }
  beginBusy (modifyEntry e.order (fun x => { x with onLine := true }) d1)

/-- R30, R31, R56: the head asked for at a slot end; after a drop the next head is asked for when its slot end too has
been reached, at most `steps` times in one command (DEDUCED, log 12). -/
def offerHead : Nat → Device → Device
  | 0, d => d
  | steps + 1, d =>
    match d.fx.queue with
    | [] => d
    | e :: _ =>
      if d.liu.transmitter = .defer ∧ due d.liu.slotEnd d.clock = true then
        match fixFrame d (laterBy d.clock 8) e.out with
        | .supplied body => startFrame e body d
        | .dropped none => offerHead steps (removeEntry e.order d)
        | .dropped (some reason) => offerHead steps (reportDropped reason e (removeEntry e.order d))
      else d

/-- R30: a slot end. -/
def takeSlotEnd (d : Device) : Device := if d.cfl.station = .running then offerHead 16 d else d

/-- R55: the entry removed, with a CLAIM's report. -/
def expireEntry (e : QueueEntry) (d : Device) : Device := reportDropped .expired e (removeEntry e.order d)

/-- R55: the expiry deadline of an entry not on the line is reached. -/
def entryExpires (order : Nat) (d : Device) : Device :=
  match findEntry d order with
  | some e => if !e.onLine && due (expiryOf e.out) d.clock then expireEntry e d else d
  | none => d

/-- R57, Collision: what the entry becomes; none when it is removed. -/
def afterCollision (e : QueueEntry) : Option QueueEntry :=
  match e.out, e.withdrawn, e.revision with
  | .claim _, true, _ => none
  | _, _, some c => some { reviseEntry c e with onLine := false }
  | _, _, none => some { e with onLine := false }

/-- R57: a collision reported for the entry on the line. -/
def collisionOutcome (order : Nat) (d : Device) : Device :=
  match findEntry d order with
  | none => d
  | some e =>
    match afterCollision e with
    | none => removeEntry order d
    | some e1 => entryExpires order (modifyEntry order (fun _ => e1) d)

/-- R33: the frame cut on both pairs. -/
def cutFrame (order : Nat) (d : Device) : Device :=
  transmitterWaits { d with liu := { d.liu with
    busy := true, driven := none, ownDrive := .cut, frameInHand := none, collisions := d.liu.collisions + 1,
    collided := some order } }

/-- R34: the eighth collision. -/
def giveUp (order : Nat) (d : Device) : Device :=
  let d1 := raise .lineContention { d with liu := { d.liu with collisions := 0, collided := none } }
  match findEntry d order with
  | none => d1
  | some e => reportDropped .contention e (removeEntry order d1)

/-- R33, R34: a collision. -/
def takeCollision (d : Device) : Device :=
  match d.liu.frameInHand with
  | none => d
  | some order =>
    let d1 := cutFrame order d
    if 8 ≤ d1.liu.collisions then giveUp order d1 else collisionOutcome order d1

/-- R32, R33: a mismatch found on a pair while a frame is in SEND. -/
def takeMismatch (p : LinePair) (d : Device) : Device :=
  if d.liu.transmitter = .send ∧ (linePair d p).readbackMatch = true then
    let d1 := setLinePair p { linePair d p with readbackMatch := false } d
    if (linePair d (otherPair p)).readbackMatch then d1 else takeCollision d1
  else d

/-- R57, Sent: what the entry becomes; none when it is removed. -/
def afterSent (e : QueueEntry) : Option QueueEntry :=
  match e.out, e.withdrawn, e.revision with
  | .claim _, false, some c => some { reviseEntry { c with sentBefore := true } e with onLine := false }
  | _, _, _ => none

/-- R35, R57: the frame has been sent. -/
def takeSent (d : Device) : Device :=
  match d.liu.transmitter, d.liu.driven, d.liu.frameInHand with
  | .send, some f, some order =>
    if isAfter f.ends d.clock then d
    else
      let d1 := transmitterWaits { d with liu := { d.liu with
        driven := none, ownDrive := .sent, frameInHand := none, collisions := 0, collided := none } }
      match (findEntry d order).bind afterSent with
      | some e => modifyEntry order (fun _ => e) d1
      | none => removeEntry order d1
  | _, _, _ => d

/-! ### The presence schedule (R58) -/

/-- The presence period in µs. -/
def presenceMicros (d : Device) : Nat := d.cfl.image.elim 0 (·.presencePeriod) * 1000

/-- R58: the presence deadline expires. -/
def presenceExpires (d : Device) : Device :=
  if due d.fx.presenceDeadline d.clock then
    requestPresence { d with fx := { d.fx with
      presenceDeadline := d.fx.presenceDeadline.map fun x => laterBy x (presenceMicros d) } }
  else d

/-- R25: the LIU begins to watch both pairs. -/
def startWatching (d : Device) : Device :=
  { d with liu := { d.liu with
      busy := true, quietDeadline := some (laterBy d.clock 10),
      pairA := { d.liu.pairA with silenceFrom := some d.clock },
      pairB := { d.liu.pairB with silenceFrom := some d.clock } } }

end Sys2Proof.Machine
end

