-- ==== Sys2Proof/Machine/Configuration.lean ====
section
/-! DEFINITION. Configuration pages: validity (R192), the layout of TABLE 12-7 (R202), and the ranges the quantities are
brought into (R193). -/

namespace Sys2Proof.Machine

/-! ### Reading the page (R192, R202) -/

/-- R192: page marker A6h, 256 bytes, and a byte sum of 0 modulo 256. -/
def pageValid (page : List Byte) : Bool :=
  page.length == 256 && byteAt page 0 == 0xA6#8 && page.foldl (· + ·) 0#8 == 0#8

/-- A code that is yes for 1, no for 0, and else the default (R202). -/
def yesCode (default : Bool) (code : Byte) : Bool := if code = 1#8 then true else if code = 0#8 then false else default

/-- The side code; UP is the default (R202). -/
def sideOfCode (code : Byte) : Side := if code = 1#8 then .down else .up

/-- A curtain pair's fields from offset `o`, numbers as they stand in the page. -/
def readPair (page : List Byte) (o : Nat) : PairConfig :=
  { enabled := yesCode false (byteAt page o), track := numberAt page (o + 1) 1, side := sideOfCode (byteAt page (o + 2)),
    d := numberAt page (o + 3) 3, b := numberAt page (o + 6) 2,
    heights := (List.range 8).map fun i => numberAt page (o + 8 + 2 * i) 2, minBeams := numberAt page (o + 24) 1,
    minBreak := numberAt page (o + 25) 2 }

/-- A caption item's fields from offset `o`, numbers as they stand in the page. -/
def readCaption (page : List Byte) (o : Nat) : CaptionItem :=
  { enable := byteAt page o &&& 0x0F#8, fullRow := numberAt page (o + 1) 2, fullColumn := numberAt page (o + 3) 2,
    stripRow := numberAt page (o + 5) 2, stripColumn := numberAt page (o + 7) 2, glyphSize := numberAt page (o + 9) 1,
    glyphAdd := numberAt page (o + 10) 1 }

/-- Every field of the page (TABLE 12-7), codes with their defaults taken, numbers as they stand. -/
def readImage (page : List Byte) : Image :=
  { ownTrack := numberAt page 1 1, presencePeriod := numberAt page 2 2, adjacency := byteAt page 4 &&& 0x0F#8,
    mergeWindow := numberAt page 5 2, yieldLimit := numberAt page 7 2, guardTime := numberAt page 9 2,
    stuckLimit := numberAt page 11 2, planHorizon := numberAt page 13 2, trimLimit := numberAt page 15 2,
    pair0 := readPair page 17, pair1 := readPair page 44, stripEnable := yesCode true (byteAt page 71),
    stripBaseCode := if numberAt page 72 1 ≤ 3 then numberAt page 72 1 else 2, stripAdd := numberAt page 73 1,
    rowRef := numberAt page 74 2, hRef := numberAt page 76 2, rowsPerM := numberAt page 78 2,
    rowTime := numberAt page 80 2, recovery := numberAt page 82 2, zone := numberAt page 84 2,
    blurLimit := numberAt page 86 1, eMax := numberAt page 87 2, nMax := numberAt page 89 1, pMax := numberAt page 90 1,
    flashSpacing := numberAt page 91 3, gainBoost := numberAt page 94 1, triggerLatency := numberAt page 95 2,
    armLead := numberAt page 97 2, cameraSetup := numberAt page 99 2, readyMargin := numberAt page 101 2,
    bootWindow := numberAt page 103 2, returnWindow := numberAt page 105 2,
    captions := (List.range 6).map fun i => readCaption page (107 + 11 * i) }

/-- The code bytes of the page with the largest code each names a value by (R202). -/
def codeLimits : List (Nat × Nat) := [(17, 1), (19, 1), (44, 1), (46, 1), (71, 1), (72, 3)]

/-- Every code of the page names a value of its enumeration. -/
def codesNamed (page : List Byte) : Bool := codeLimits.all fun x => decide ((byteAt page x.1).toNat ≤ x.2)

/-! ### Ranges (R193, TABLE 1-1, 6-2, 7-1, 8-1, 10-2) -/

/-- A pair's numbers brought into their ranges (TABLE 1-1). -/
def clampPair (p : PairConfig) : PairConfig :=
  { p with
    track := clampNat 1 4 p.track, d := clampNat 500 1000000 p.d, b := clampNat 1000 4000 p.b,
    heights := p.heights.map (clampNat 0 8000), minBeams := clampNat 1 4 p.minBeams,
    minBreak := clampNat 50 2000 p.minBreak }

/-- A caption item's numbers brought into their ranges (R157, R202). -/
def clampCaption (c : CaptionItem) : CaptionItem :=
  { c with
    fullRow := clampNat 0 2047 c.fullRow, fullColumn := clampNat 0 4095 c.fullColumn, stripRow := clampNat 0 751 c.stripRow,
    stripColumn := clampNat 0 4095 c.stripColumn, glyphSize := clampNat 0 3 c.glyphSize,
    glyphAdd := clampNat 0 7 c.glyphAdd }

/-- Every number of the image brought into its range (R193). -/
def clampImage (i : Image) : Image :=
  { i with
    ownTrack := clampNat 1 4 i.ownTrack, presencePeriod := clampNat 50 1000 i.presencePeriod,
    mergeWindow := clampNat 0 2000 i.mergeWindow, yieldLimit := clampNat 0 5000 i.yieldLimit,
    guardTime := clampNat 0 1000 i.guardTime, stuckLimit := clampNat 500 9999 i.stuckLimit,
    planHorizon := clampNat 100 2000 i.planHorizon, trimLimit := clampNat 100 10000 i.trimLimit,
    pair0 := clampPair i.pair0, pair1 := clampPair i.pair1, stripAdd := clampNat 0 15 i.stripAdd,
    rowRef := clampNat 0 2047 i.rowRef, hRef := clampNat 0 8000 i.hRef, rowsPerM := clampNat 50 2000 i.rowsPerM,
    rowTime := clampNat 1000 20000 i.rowTime, recovery := clampNat 50 5000 i.recovery, zone := clampNat 150 2000 i.zone,
    blurLimit := clampNat 1 20 i.blurLimit, eMax := clampNat 20 2000 i.eMax, nMax := clampNat 1 4 i.nMax,
    pMax := clampNat 1 4 i.pMax, flashSpacing := clampNat 1000 100000 i.flashSpacing,
    gainBoost := clampNat 0 15 i.gainBoost, triggerLatency := clampNat 0 500 i.triggerLatency,
    armLead := clampNat 500 50000 i.armLead, cameraSetup := clampNat 0 5000 i.cameraSetup,
    readyMargin := clampNat 50 5000 i.readyMargin, bootWindow := clampNat 500 9999 i.bootWindow,
    returnWindow := clampNat 50 1000 i.returnWindow, captions := i.captions.map clampCaption }

/-- A verify pair's D of at most 20,000 mm (R193, step 1). -/
def nearPair (p : PairConfig) : PairConfig := { p with d := min 20000 p.d }

/-- The two further adjustments (R193). -/
def adjustImage (role : Role) (i : Image) : Image :=
  let i1 := match role with
    | .camera => { i with pair0 := nearPair i.pair0, pair1 := nearPair i.pair1 }
    | .approach => i
  { i1 with armLead := max i1.armLead (1800 + i1.cameraSetup) }

/-- The configuration image of a page (R193). -/
def imageOf (role : Role) (page : List Byte) : Image := adjustImage role (clampImage (readImage page))

/-- At least one quantity was clamped (R193). -/
def pageClamped (role : Role) (page : List Byte) : Bool :=
  !codesNamed page || clampImage (readImage page) != readImage page
    || imageOf role page != clampImage (readImage page)

end Sys2Proof.Machine
end

