-- ==== Sys2Proof/Machine/Station.lean ====
section
/-! DEFINITION. Station Control (chapter 10): resets, loading, and the station states. -/

namespace Sys2Proof.Machine

/-! ### Resets (R24, R45, R63, R79, R111, R132, R152, R173, R189) -/

/-- A beam after a reset: its input keeps its level (DESIGN CHOICE, log 25). -/
def resetBeam (b : Beam) : Beam := Beam.reset b.raw

/-- The CIU after a reset (R24). -/
def resetCiu (c : Ciu) : Ciu :=
  { curtains := mapVec (fun (x : Curtain) => Curtain.reset (mapVec resetBeam x.beams)) c.curtains,
    pairs := Vector.replicate 2 Sequencer.reset }

/-- Every block but the record queue at its reset values. -/
def resetBlocks (d : Device) : Device :=
  { d with
    cfl := Cfl.reset, ciu := resetCiu d.ciu, liu := Liu.reset, fx := Fx.reset, ptb := Ptb.reset, htk := Htk.reset,
    cpl := Cpl.reset, crs := Crs.reset, cdu := Cdu.reset, fdu := Fdu.reset }

/-! ### Loading (R190, R191, R194, R199) -/

/-- A page read begins: 260 bytes of 8 µs (R191). -/
def startRead (page : Nat) (d : Device) : Device :=
  { d with cfl := { d.cfl with reading := some (page, laterBy d.clock 2080), commonAt := none } }

/-- R190, R194: LOADING entered with the straps read once, as they stand in `pins`. -/
def enterLoading (d : Device) : Device :=
  let d1 := startPattern .shortPulse { d with cfl := { d.cfl with station := .loading, role := some d.pins.role } }
  if d.pins.stn = 0#5 then { d1 with cfl := { d1.cfl with station := .configFault } }
  else
    startRead d.pins.stn.toNat
      { d1 with cfl := { d1.cfl with number := some d.pins.stn.toNat, loadStep := .readStation } }

/-- R195: LISTENING entered with an image. -/
def enterListening (im : Image) (d : Device) : Device :=
  let d1 := { d with cfl := { d.cfl with
    station := .listening, loadStep := .done, image := some im,
    listeningDeadline := some (laterBy d.clock 2000000) } }
  let d2 := fixVerifySides im (startWatching (startEvaluation d1))
  if isCamera d2 then startBoot im d2 else d2

/-- A valid page used (R193, R195). -/
def usePage (used : PageUsed) (page : List Byte) (d : Device) : Device :=
  let role := d.cfl.role.getD .camera
  let d1 := { d with cfl := { d.cfl with pageUsed := used } }
  enterListening (imageOf role page) (if pageClamped role page then raise .configClamped d1 else d1)

/-- R191: a page read is complete. -/
def pageComplete (page : List Byte) (camRdy : Bool) (d : Device) : Device :=
  if !due (d.cfl.reading.map (·.2)) d.clock then d
  else
    let d1 := { d with pins := { d.pins with camRdy := camRdy }, cfl := { d.cfl with reading := none } }
    match d.cfl.loadStep with
    | .readStation =>
      if pageValid page then usePage .station page d1
      else { d1 with cfl := { d1.cfl with loadStep := .readCommon, commonAt := some (laterBy d.clock 10) } }
    | .readCommon =>
      if pageValid page then usePage .common page d1
      else { d1 with cfl := { d1.cfl with station := .configFault } }
    | .straps => d1
    | .done => d1

/-- R191: the read of page 63 begins. -/
def commonStart (d : Device) : Device := if due d.cfl.commonAt d.clock then startRead 63 d else d

/-! ### Station states (R196) -/

/-- R196, R58: the listening deadline expires. -/
def enterRunning (d : Device) : Device :=
  requestPresence { d with
    cfl := { d.cfl with station := .running, listeningDeadline := none },
    fx := { d.fx with presenceDeadline := some (laterBy d.clock (presenceMicros d)) } }

/-- The listening deadline expires. -/
def listeningExpires (d : Device) : Device := if due d.cfl.listeningDeadline d.clock then enterRunning d else d

/-- R199: the other part of a blinking pattern begins. -/
def nextPhase (d : Device) : Device :=
  { d with cfl := { d.cfl with
      indActive := !d.cfl.indActive,
      phaseDeadline := (phaseLength d.cfl.indicator (!d.cfl.indActive)).map (laterBy d.clock) } }

/-- R199: the indicator phase deadline expires. -/
def phaseExpires (d : Device) : Device := if due d.cfl.phaseDeadline d.clock then nextPhase d else d

/-! ### Power-on and RST_N (R188, R189) -/

/-- R189: power-on, with the straps as they then stand. -/
def powerOnReset (stn : BitVec 5) (role : Role) (d : Device) : Device :=
  let d1 := resetBlocks { d with
    clock := 0#32, pins := { d.pins with rstActive := false, stn := stn, role := role } }
  refreshIndicator (enterLoading { d1 with rqs := Rqs.reset 0#24 (flagBit .powerUp) })

/-- R189: RST_N active: every output inactive, every block without anything in progress (DEDUCED, log 27). -/
def heldReset (d : Device) : Device :=
  resetBlocks { d with pins := { d.pins with rstActive := true }, rqs := Rqs.reset 0#24 0#15 }

end Sys2Proof.Machine
end

