-- ==== Sys2Proof/Machine/Service.lean ====
section
/-! DEFINITION. The service port (chapter 9, 9.4 and 9.5): the receiver, the commands' effects and their replies
(R201, TABLE 12-3, TABLE 12-4). -/

namespace Sys2Proof.Machine

/-! ### Reply contents -/

/-- The station summary and the flags returned (R181, TABLE 12-4). -/
def statusContents (d : Device) : List Byte :=
  [byteOf (ownNumber d), roleCode (d.cfl.role.getD .camera), stationStateCode d.cfl.station, pageUsedCode d.cfl.pageUsed]
    ++ timeBytes d.clock
    ++ [indicatorCode d.cfl.indicator, byteOf d.rqs.records.length]
    ++ bytesOf 3 d.rqs.passage.toNat
    ++ [boolByte (d.liu.preferred == .b), byteOf d.liu.pairA.quality, byteOf d.liu.pairB.quality,
        namedBits placeDeadFlags (d.ciu.curtains.toList.map (·.dead)),
        namedBits placeSideUp [(verifyD d .up).isSome, shortLead d .up], byteOf (approachCover d .up),
        namedBits placeSideDown [(verifyD d .down).isSome, shortLead d .down], byteOf (approachCover d .down),
        cameraStateCode d.cdu.state, byteOf d.cdu.timeouts, flashStateCode d.fdu.state, byteOf d.fdu.misfires]
    ++ bytesOf 2 d.rqs.flags.toNat

/-- A peer entry's part of PEEK_PEERS (R78). -/
def peerBytes (now : Time) (e : PeerEntry) : List Byte :=
  match e.state with
  | .absent => [peerStateCode .absent]
  | .present | .stale | .lost =>
    [peerStateCode e.state, roleCode (e.role.getD .camera)] ++ bytesOf 2 (e.period.getD 0)
      ++ bytesOf 4 (now - e.lastPresence.getD 0#32).toNat
      ++ [namedBits placePeerLockouts [e.flashLockout, e.cameraLockout], byteOf e.marks.length] ++ e.marks.flatMap markBytes

/-- The peer table, station 1 to 31 (R78). -/
def peersContents (d : Device) : List Byte := (List.range 31).flatMap fun i => peerBytes d.clock (peer d (i + 1))

/-- A track's part of PEEK_TRACKS (R110). -/
def trackBytes (now : Time) (tr : Track) : List Byte :=
  [tr.id, sideCode tr.side, trackStateCode tr.state, basisCode tr.pred.basis] ++ bytesOf 4 tr.pred.vg
    ++ signedBytes 4 (timeDiff tr.pred.tPred now) ++ bytesOf 4 tr.pred.tol
    ++ [byteOf tr.sightings.length, boolByte tr.verify.isSome, claimStatusCode tr.claimStatus,
        byteOf (tr.plan.elim 0 (·.n))]
    ++ flagBytes tr.flags

/-- The head-track list with its counters (R110). -/
def tracksContents (d : Device) : List Byte :=
  bytesOf 2 d.htk.tooFar ++ [d.htk.nextId, byteOf d.htk.tracks.length] ++ d.htk.tracks.flatMap (trackBytes d.clock)

/-- A reply: reply byte, count, contents, check byte (R201). -/
def replyBytes (command : Byte) (contents : List Byte) : List Byte :=
  withCheck ([command + 0x80#8] ++ bytesOf 2 contents.length ++ contents)

/-- The transmitter enters SENDING with a reply (R180). -/
def sendReply (command : Byte) (contents : List Byte) (d : Device) : Device :=
  { d with rqs := { d.rqs with reply := some (replyBytes command contents) } }

/-! ### Effects of the commands (R181 to R187) -/

/-- R181: the latched flags are copied and cleared. -/
def takeStatus (d : Device) : Device :=
  sendReply 0x51#8 (statusContents d) { d with rqs := { d.rqs with flags := 0#15 } }

/-- R183: the record at the head is removed and returned. -/
def takeRecordNow (d : Device) : Device :=
  match d.rqs.records with
  | [] => sendReply 0x52#8 [] d
  | r :: rest => sendReply 0x52#8 (recordBytes r) { d with rqs := { d.rqs with records := rest } }

/-- R184, R78. -/
def takePeekPeers (d : Device) : Device := sendReply 0x53#8 (peersContents d) d

/-- R184, R110. -/
def takePeekTracks (d : Device) : Device := sendReply 0x54#8 (tracksContents d) d

/-- R185: the force values replaced, or NOT_APPLIED. -/
def takeForce (c : Fin 4) (mask pattern : Byte) (d : Device) : Device :=
  if stationWorks d then
    let d1 := forceCurtain c mask pattern d
    sendReply 0x55#8 [0#8, boolByte (curtain d1 c).dead] d1
  else sendReply 0x55#8 [1#8, boolByte (curtain d c).dead] d

/-- The command names the camera. -/
def namesCamera : LockoutUnit → Bool
  | .camera => true
  | .both => true
  | .flash => false

/-- The command names the flash. -/
def namesFlash : LockoutUnit → Bool
  | .flash => true
  | .both => true
  | .camera => false

/-- R186, R201: a unit's result: CLEARED 0, NOT_LOCKED 1, not named FFh. -/
def clearResult (named locked : Bool) : Byte := if named then (if locked then 0#8 else 1#8) else 0xFF#8

/-- R186: each unit named is handled on its own, of two the camera first (DESIGN CHOICE, log 34). -/
def takeClear (u : LockoutUnit) (d : Device) : Device :=
  let d1 := if namesCamera u then clearCamera d else d
  let d2 := if namesFlash u then clearFlash d1 else d1
  sendReply 0x56#8
    [clearResult (namesCamera u) (d.cdu.state == .locked), clearResult (namesFlash u) (d.fdu.state == .locked)] d2

/-- R187, R198: every block reset, RESTARTED, a new load, and the reply, which says LOADING (DEDUCED, log 26). -/
def takeRestart (d : Device) : Device :=
  let d1 := { resetBlocks d with rqs := Rqs.reset d.rqs.passage (flagBit .restarted) }
  sendReply 0x57#8 (bytesOf 3 d.rqs.passage.toNat ++ [stationStateCode .loading]) (enterLoading d1)

/-- R180: a command taken. -/
def takeCommand (c : ServiceCommand) (d : Device) : Device :=
  match c with
  | .status => takeStatus d
  | .takeRecord => takeRecordNow d
  | .peekPeers => takePeekPeers d
  | .peekTracks => takePeekTracks d
  | .forceBeams k mask pattern => takeForce k mask pattern d
  | .clearLockout u => takeClear u d
  | .restart => takeRestart d

/-! ### The receiver (R178 to R180, TABLE 9-6) -/

/-- R180: a complete command taken, held, or discarded. -/
def completeCommand (c : ServiceCommand) (d : Device) : Device :=
  match d.rqs.reply, d.rqs.held with
  | none, _ => takeCommand c d
  | some _, none => { d with rqs := { d.rqs with held := some c } }
  | some _, some _ => raise .serviceError d

/-- R179: a command in hand of full length judged. -/
def judgeInHand (bytes : List Byte) (d : Device) : Device :=
  match judgeCommand bytes with
  | some c => completeCommand c d
  | none => raise .serviceError d

/-- The receiver in a state, with the bytes in hand and the gap deadline set from now (R178). -/
def receiverTo (r : Receiver) (bytes : List Byte) (d : Device) : Device :=
  { d with rqs := { d.rqs with receiver := r, inHand := bytes, gapDeadline := some (laterBy d.clock 5000) } }

/-- The receiver back in IDLE (R178). -/
def receiverIdle (d : Device) : Device :=
  { d with rqs := { d.rqs with receiver := .idle, inHand := [], gapDeadline := none } }

/-- R178: a byte received. -/
def receiveByte (framingError : Bool) (b : Byte) (d : Device) : Device :=
  match d.rqs.receiver with
  | .idle =>
    if !framingError && commandLength b != 0 then receiverTo .receiving [b] d
    else receiverTo .discarding [] (raise .serviceError d)
  | .receiving =>
    if framingError then receiverTo .discarding [] (raise .serviceError d)
    else if d.rqs.inHand.length + 1 = commandLength ((d.rqs.inHand ++ [b]).headD 0#8) then
      judgeInHand (d.rqs.inHand ++ [b]) (receiverIdle d)
    else receiverTo .receiving (d.rqs.inHand ++ [b]) d
  | .discarding => receiverTo .discarding [] d

/-- The bytes of a full-length command that have not been received yet: all of them in IDLE, and in RECEIVING those
after the command in hand (DESIGN CHOICE, log 13). -/
def missingBytes (d : Device) (bytes : List Byte) : List Byte :=
  match d.rqs.receiver with
  | .idle => bytes
  | .receiving => if d.rqs.inHand.isPrefixOf bytes then bytes.drop d.rqs.inHand.length else []
  | .discarding => []

/-- A good byte completes the command in hand (R178, R179). -/
def completesCommand (b : Byte) (d : Device) : Bool :=
  d.rqs.receiver == .receiving && d.rqs.inHand.length + 1 == commandLength ((d.rqs.inHand ++ [b]).headD 0#8)

/-- The straps and CAM_RDY sampled with a byte that completes a command, which may read them (R154, R198; DESIGN CHOICE,
log 5). -/
def sampleWith (x : ServiceByte) (d : Device) : Device :=
  if completesCommand x.value d then
    { d with pins := { d.pins with stn := x.stn, role := x.role, camRdy := x.camRdy } }
  else d

/-- A byte that SERVICE_BYTE_ERROR can stand for: one with a framing error, one that names no command in IDLE, or any in
DISCARDING (TABLE 9-6). -/
def erroneousByte (framingError : Bool) (b : Byte) (d : Device) : Bool :=
  framingError ||
    match d.rqs.receiver with
    | .idle => commandLength b == 0
    | .receiving => false
    | .discarding => true

/-- The rest of a full-length command received (DESIGN CHOICE, log 13). -/
def receiveCommand (bytes : List Byte) (d : Device) : Device :=
  forEach (missingBytes d bytes) (receiveByte false) d

/-- R178: the gap deadline expires. -/
def gapExpires (d : Device) : Device :=
  if due d.rqs.gapDeadline d.clock then
    match d.rqs.receiver with
    | .receiving => receiverIdle (raise .serviceError d)
    | .discarding => receiverIdle d
    | .idle => d
  else d

/-- The input levels a command reads when it is taken: the straps for RESTART (R198), CAM_RDY for CLEAR_LOCKOUT
(R154). -/
def samplePins (c : ServiceCommand) (stn : BitVec 5) (role : Role) (camRdy : Bool) (d : Device) : Device :=
  match c with
  | .restart => { d with pins := { d.pins with stn := stn, role := role } }
  | .clearLockout _ => { d with pins := { d.pins with camRdy := camRdy } }
  | _ => d

/-- R180: the reply being sent ends, and a pending command is taken. -/
def replyEnds (stn : BitVec 5) (role : Role) (camRdy : Bool) (d : Device) : Device :=
  match d.rqs.reply, d.rqs.held with
  | none, _ => d
  | some _, none => { d with rqs := { d.rqs with reply := none } }
  | some _, some c =>
    takeCommand c (samplePins c stn role camRdy { d with rqs := { d.rqs with reply := none, held := none } })

end Sys2Proof.Machine
end

