-- ==== Sys2Proof/Machine/LineCommands.lean ====
section
/-! DEFINITION. The commands of the gantry line, Frame Exchange and the Peer Table, one meaning each. -/

namespace Sys2Proof.Machine

/-- LINE_TRANSITION (R27, R28, R37). -/
def execLineTransition (t : Time) (p : LinePair) (heard : List LineSymbol) (s : State) :
    Host.Outcome State Fault Refusal :=
  taken t (takeTransition p heard) s

/-- ENTER_JABBERING (R28). -/
def execEnterJabbering (t : Time) (p : LinePair) (s : State) : Host.Outcome State Fault Refusal :=
  taken t (takeJabber p) s

/-- PAIR_QUIET (R28). -/
def execPairQuiet (t : Time) (p : LinePair) (s : State) : Host.Outcome State Fault Refusal :=
  taken t (takeQuiet p) s

/-- QUIET_DEADLINE_EXPIRES (R27). -/
def execQuietDeadlineExpires (t : Time) (s : State) : Host.Outcome State Fault Refusal :=
  taken t quietExpires s

/-- SLOT_END (R30). -/
def execSlotEnd (t : Time) (s : State) : Host.Outcome State Fault Refusal :=
  taken t takeSlotEnd s

/-- READBACK_MISMATCH (R32, R33). -/
def execReadbackMismatch (t : Time) (p : LinePair) (s : State) : Host.Outcome State Fault Refusal :=
  taken t (takeMismatch p) s

/-- FRAME_SENT (R35). -/
def execFrameSent (t : Time) (s : State) : Host.Outcome State Fault Refusal :=
  taken t takeSent s

/-- OUTBOUND_ENTRY_EXPIRES (R55). -/
def execOutboundEntryExpires (t : Time) (order : Nat) (s : State) : Host.Outcome State Fault Refusal :=
  taken t (entryExpires order) s

/-- PRESENCE_DEADLINE_EXPIRES (R58). -/
def execPresenceDeadlineExpires (t : Time) (s : State) : Host.Outcome State Fault Refusal :=
  taken t presenceExpires s

/-- STALE_DEADLINE_EXPIRES (R67). -/
def execStaleDeadlineExpires (t : Time) (p : Nat) (s : State) : Host.Outcome State Fault Refusal :=
  taken t (staleExpires p) s

/-- LOST_DEADLINE_EXPIRES (R68). -/
def execLostDeadlineExpires (t : Time) (p : Nat) (s : State) : Host.Outcome State Fault Refusal :=
  taken t (lostExpires p) s

end Sys2Proof.Machine
end

