-- ==== Sys2Proof/Machine/ServiceCommands.lean ====
section
/-! DEFINITION. The commands of the service port, one meaning each. The rows of the seven service commands stand for the
reception of the command's last byte; the bytes not yet received are received with it (DESIGN CHOICE, log 13). -/

namespace Sys2Proof.Machine

/-- STATUS (R181). -/
def execStatus (t : Time) (s : State) : Host.Outcome State Fault Refusal :=
  taken t (receiveCommand (commandBytes .status)) s

/-- TAKE_RECORD (R183). -/
def execTakeRecord (t : Time) (s : State) : Host.Outcome State Fault Refusal :=
  taken t (receiveCommand (commandBytes .takeRecord)) s

/-- PEEK_PEERS (R184). -/
def execPeekPeers (t : Time) (s : State) : Host.Outcome State Fault Refusal :=
  taken t (receiveCommand (commandBytes .peekPeers)) s

/-- PEEK_TRACKS (R184). -/
def execPeekTracks (t : Time) (s : State) : Host.Outcome State Fault Refusal :=
  taken t (receiveCommand (commandBytes .peekTracks)) s

/-- FORCE_BEAMS (R185). -/
def execForceBeams (t : Time) (c : Fin 4) (mask pattern : Byte) (s : State) : Host.Outcome State Fault Refusal :=
  taken t (receiveCommand (commandBytes (.forceBeams c mask pattern))) s

/-- CLEAR_LOCKOUT (R186), with the level of CAM_RDY (DESIGN CHOICE, log 5). -/
def execClearLockout (t : Time) (u : LockoutUnit) (camRdy : Bool) (s : State) : Host.Outcome State Fault Refusal :=
  taken t (fun d => receiveCommand (commandBytes (.clearLockout u)) { d with pins := { d.pins with camRdy := camRdy } }) s

/-- RESTART (R187), with the levels of the straps (DESIGN CHOICE, log 5). -/
def execRestart (t : Time) (stn : BitVec 5) (role : Role) (s : State) : Host.Outcome State Fault Refusal :=
  taken t (fun d => receiveCommand (commandBytes .restart) { d with pins := { d.pins with stn := stn, role := role } }) s

/-- INVALID_COMMAND (R179); bytes that are a complete command, or no full-length one, are not this event (DESIGN CHOICE,
log 3). -/
def execInvalidCommand (t : Time) (bytes : List Byte) (s : State) : Host.Outcome State Fault Refusal :=
  taken t (fun d => if discardedCommand bytes then receiveCommand bytes d else d) s

/-- SERVICE_BYTE_ERROR (R178); a byte without error is not this event (DESIGN CHOICE, log 3). -/
def execServiceByteError (t : Time) (b : Byte) (framingError : Bool) (s : State) : Host.Outcome State Fault Refusal :=
  taken t (fun d => if erroneousByte framingError b d then receiveByte framingError b d else d) s

/-- GAP_DEADLINE_EXPIRES (R178). -/
def execGapDeadlineExpires (t : Time) (s : State) : Host.Outcome State Fault Refusal :=
  taken t gapExpires s

/-- REPLY_END (R180). -/
def execReplyEnd (t : Time) (stn : BitVec 5) (role : Role) (camRdy : Bool) (s : State) :
    Host.Outcome State Fault Refusal :=
  taken t (replyEnds stn role camRdy) s

/-- SERVICE_BYTE_RECEIVED (R178), with the levels that a command completed by the byte reads (DESIGN CHOICE, log 5). -/
def execServiceByteReceived (t : Time) (x : ServiceByte) (s : State) : Host.Outcome State Fault Refusal :=
  taken t (fun d => receiveByte false x.value (sampleWith x d)) s

end Sys2Proof.Machine
end

