-- ==== Sys2Proof/Machine/StationCommands.lean ====
section
/-! DEFINITION. The commands of start-up, station control and the curtains, one meaning each. -/

namespace Sys2Proof.Machine

/-- POWER_ON (R189). -/
def execPowerOn (stn : BitVec 5) (role : Role) (s : State) : Host.Outcome State Fault Refusal :=
  .next { s with dev := powerOnReset stn role s.dev }

/-- RST_N_ASSERTED (R189). -/
def execRstNAsserted (s : State) : Host.Outcome State Fault Refusal :=
  .next { s with dev := heldReset s.dev }

/-- PAGE_READ_COMPLETE (R191 to R195). -/
def execPageReadComplete (t : Time) (page : List Byte) (camRdy : Bool) (s : State) :
    Host.Outcome State Fault Refusal :=
  taken t (pageComplete page camRdy) s

/-- COMMON_PAGE_READ_START (R191). -/
def execCommonPageReadStart (t : Time) (s : State) : Host.Outcome State Fault Refusal :=
  taken t commonStart s

/-- LISTENING_DEADLINE_EXPIRES (R196). -/
def execListeningDeadlineExpires (t : Time) (s : State) : Host.Outcome State Fault Refusal :=
  taken t listeningExpires s

/-- INDICATOR_PHASE_EXPIRES (R199). -/
def execIndicatorPhaseExpires (t : Time) (s : State) : Host.Outcome State Fault Refusal :=
  taken t phaseExpires s

/-- RAW_LEVEL_CHANGE (R3). While RST_N is active only the level at the input changes (DESIGN CHOICE, log 25). -/
def execRawLevelChange (t : Time) (c : Fin 4) (i : Fin 8) (level : Bool) (s : State) :
    Host.Outcome State Fault Refusal :=
  if s.dev.pins.rstActive then .next { s with dev := modifyBeam c i (fun b => { b with raw := level }) s.dev }
  else taken t (rawChange c i level) s

/-- STUCK_DEADLINE_EXPIRES (R5). -/
def execStuckDeadlineExpires (t : Time) (c : Fin 4) (i : Fin 8) (s : State) : Host.Outcome State Fault Refusal :=
  taken t (stuckExpires c i) s

/-- UNMASK_DEADLINE_EXPIRES (R6). -/
def execUnmaskDeadlineExpires (t : Time) (c : Fin 4) (i : Fin 8) (s : State) : Host.Outcome State Fault Refusal :=
  taken t (unmaskExpires c i) s

/-- VALIDATION_DEADLINE_EXPIRES (R9). -/
def execValidationDeadlineExpires (t : Time) (c : Fin 4) (s : State) : Host.Outcome State Fault Refusal :=
  taken t (validationExpires c) s

/-- ORPHAN_DEADLINE_EXPIRES (R14, R16). -/
def execOrphanDeadlineExpires (t : Time) (p : Fin 2) (s : State) : Host.Outcome State Fault Refusal :=
  taken t (fun d => if due (sequencer d p).orphanDeadline d.clock then orphanExpires p d else d) s

end Sys2Proof.Machine
end

