-- ==== Sys2Proof/Machine/TrackCommands.lean ====
section
/-! DEFINITION. The commands of the Head Tracker, the Claim Resolver, the camera and the flash, one meaning each. -/

namespace Sys2Proof.Machine

/-! ### What the commands do -/

/-- R98: the plan-horizon deadline of a PREDICTED track expires. -/
def horizonExpires (id : Byte) (d : Device) : Device :=
  match findTrack d id with
  | some tr => if tr.state = .predicted ∧ due tr.planHorizon d.clock = true then planTrack id d else d
  | none => d

/-- R101: the miss deadline of a track in PREDICTED or PLANNED expires. -/
def missExpires (id : Byte) (d : Device) : Device :=
  match findTrack d id with
  | some tr =>
    if (tr.state = .predicted ∨ tr.state = .planned) ∧ due tr.missDeadline d.clock = true then
      closeTrack .missed .late id d
    else d
  | none => d

/-- R100: the arm-point deadline of a PLANNED track expires. -/
def armPointExpires (id : Byte) (d : Device) : Device :=
  match findTrack d id with
  | some tr => if tr.state = .planned ∧ due tr.armPoint d.clock = true then armTrack id d else d
  | none => d

/-- R138: the expiry deadline of a neighbour claim is reached. -/
def claimExpires (key : ClaimKey) (d : Device) : Device :=
  match d.crs.claims.find? (fun c => c.key == key) with
  | some c => if isAfter c.expiry d.clock then d else removeClaim key d
  | none => d

/-- R156, R159: the message on the order line ends, which may free a waiting pulse. -/
def orderEnds (d : Device) : Device :=
  if due (d.cdu.orderLine.map (·.2)) d.clock then issuePulses (endMessage d) else d

/-- R154: the boot deadline expires in BOOTING. -/
def bootDeadlineExpires (d : Device) : Device :=
  match d.cdu.state, d.cfl.image with
  | .booting, some im => if due d.cdu.bootDeadline d.clock then bootExpires im d else d
  | _, _ => d

/-- CAM_RDY becomes active: a READY (R154, R161, R162). -/
def readyArrives (d : Device) : Device := takeReady { d with pins := { d.pins with camRdy := true } }

/-- R163: the ready deadline of the outstanding frame expires. -/
def readyExpires (d : Device) : Device :=
  match d.cdu.outstanding with
  | some o => if isAfter o.readyDeadline d.clock then d else timeOut o d
  | none => d

/-- The frame of the burst of a track whose pulse is still to be issued and whose pulse time has been reached. -/
def pulseReached (d : Device) (id : Byte) (k : Nat) : Bool :=
  d.cdu.bursts.any fun b => b.trackId == id && b.frames.any fun f =>
    f.index == k && !f.issued && f.outcome.isNone && !isAfter f.pulse d.clock

/-- R159: CAM_TRG returns inactive, which may free a waiting pulse. -/
def triggerEnds (d : Device) : Device :=
  if due d.cdu.triggerEnd d.clock then issuePulses { d with cdu := { d.cdu with triggerEnd := none } } else d

/-- A pending flash decision removed. -/
def removeDecision (x : FlashDecision) (d : Device) : Device :=
  { d with fdu := { d.fdu with
      decisions := d.fdu.decisions.filter fun y => !(y.trackId == x.trackId && y.frame == x.frame) } }

/-- R167: a flash instant is reached. -/
def flashReached (id : Byte) (k : Nat) (d : Device) : Device :=
  match d.fdu.decisions.find? (fun x => x.trackId == id && x.frame == k), d.cfl.image with
  | some x, some im => if isAfter x.instant d.clock then d else decideFlash im x (removeDecision x d)
  | _, _ => d

/-- R168: FL_FIRE returns inactive. -/
def fireEnds (d : Device) : Device :=
  if due d.fdu.fireEnd d.clock then { d with fdu := { d.fdu with fireEnd := none } } else d

/-- R169: an awaited return's deadline expires. -/
def returnExpires (id : Byte) (k : Nat) (d : Device) : Device :=
  match d.fdu.awaited.find? (fun a => a.trackId == id && a.frame == k) with
  | some a => if isAfter a.deadline d.clock then d else misfire a d
  | none => d

/-! ### The commands -/

/-- PLAN_HORIZON_DEADLINE_EXPIRES (R98). -/
def execPlanHorizonDeadlineExpires (t : Time) (id : Byte) (s : State) : Host.Outcome State Fault Refusal :=
  taken t (horizonExpires id) s

/-- MISS_DEADLINE_EXPIRES (R101). -/
def execMissDeadlineExpires (t : Time) (id : Byte) (s : State) : Host.Outcome State Fault Refusal :=
  taken t (missExpires id) s

/-- ARM_POINT_DEADLINE_EXPIRES (R100). -/
def execArmPointDeadlineExpires (t : Time) (id : Byte) (s : State) : Host.Outcome State Fault Refusal :=
  taken t (armPointExpires id) s

/-- ORDER_MESSAGE_END (R156). -/
def execOrderMessageEnd (t : Time) (s : State) : Host.Outcome State Fault Refusal :=
  taken t orderEnds s

/-- NEIGHBOUR_CLAIM_EXPIRES (R138). -/
def execNeighbourClaimExpires (t : Time) (station : Nat) (id : Byte) (s : State) : Host.Outcome State Fault Refusal :=
  taken t (claimExpires { station := station, trackId := id }) s

/-- BOOT_DEADLINE_EXPIRES (R154). -/
def execBootDeadlineExpires (t : Time) (s : State) : Host.Outcome State Fault Refusal :=
  taken t bootDeadlineExpires s

/-- READY (R154, R161, R162). -/
def execReady (t : Time) (s : State) : Host.Outcome State Fault Refusal :=
  taken t readyArrives s

/-- READY_DEADLINE_EXPIRES (R163). -/
def execReadyDeadlineExpires (t : Time) (s : State) : Host.Outcome State Fault Refusal :=
  taken t readyExpires s

/-- PULSE_TIME_REACHED (R159). -/
def execPulseTimeReached (t : Time) (id : Byte) (k : Nat) (s : State) : Host.Outcome State Fault Refusal :=
  taken t (fun d => if pulseReached d id k then issuePulses d else d) s

/-- ISSUE_PULSE (R159). -/
def execIssuePulse (t : Time) (s : State) : Host.Outcome State Fault Refusal :=
  taken t issuePulses s

/-- TRIGGER_END (R159). -/
def execTriggerEnd (t : Time) (s : State) : Host.Outcome State Fault Refusal :=
  taken t triggerEnds s

/-- FLASH_INSTANT (R167). -/
def execFlashInstant (t : Time) (id : Byte) (k : Nat) (s : State) : Host.Outcome State Fault Refusal :=
  taken t (flashReached id k) s

/-- FLASH_FIRE_END (R168). -/
def execFlashFireEnd (t : Time) (s : State) : Host.Outcome State Fault Refusal :=
  taken t fireEnds s

/-- FLASH_RETURN (R169). -/
def execFlashReturn (t : Time) (s : State) : Host.Outcome State Fault Refusal :=
  taken t takeReturn s

/-- RETURN_DEADLINE_EXPIRES (R169). -/
def execReturnDeadlineExpires (t : Time) (id : Byte) (k : Nat) (s : State) : Host.Outcome State Fault Refusal :=
  taken t (returnExpires id k) s

end Sys2Proof.Machine
end

