-- ==== Sys2Proof/Machine/Dispatch.lean ====
section
/-! DEFINITION. The effect of each command on everything but the queue: one arm per constructor. -/

namespace Sys2Proof.Machine

def exec (i : Instr) (s : State) : Host.Outcome State Fault Refusal :=
  match i with
  | .powerOn stn role => Sys2Proof.Machine.execPowerOn stn role s
  | .pageReadComplete t page camRdy => Sys2Proof.Machine.execPageReadComplete t page camRdy s
  | .commonPageReadStart t => Sys2Proof.Machine.execCommonPageReadStart t s
  | .listeningDeadlineExpires t => Sys2Proof.Machine.execListeningDeadlineExpires t s
  | .indicatorPhaseExpires t => Sys2Proof.Machine.execIndicatorPhaseExpires t s
  | .rawLevelChange t curtain beam interrupted => Sys2Proof.Machine.execRawLevelChange t curtain beam interrupted s
  | .stuckDeadlineExpires t curtain beam => Sys2Proof.Machine.execStuckDeadlineExpires t curtain beam s
  | .unmaskDeadlineExpires t curtain beam => Sys2Proof.Machine.execUnmaskDeadlineExpires t curtain beam s
  | .validationDeadlineExpires t curtain => Sys2Proof.Machine.execValidationDeadlineExpires t curtain s
  | .orphanDeadlineExpires t pair => Sys2Proof.Machine.execOrphanDeadlineExpires t pair s
  | .lineTransition t pair heard => Sys2Proof.Machine.execLineTransition t pair heard s
  | .enterJabbering t pair => Sys2Proof.Machine.execEnterJabbering t pair s
  | .pairQuiet t pair => Sys2Proof.Machine.execPairQuiet t pair s
  | .quietDeadlineExpires t => Sys2Proof.Machine.execQuietDeadlineExpires t s
  | .slotEnd t => Sys2Proof.Machine.execSlotEnd t s
  | .readbackMismatch t pair => Sys2Proof.Machine.execReadbackMismatch t pair s
  | .frameSent t => Sys2Proof.Machine.execFrameSent t s
  | .outboundEntryExpires t order => Sys2Proof.Machine.execOutboundEntryExpires t order s
  | .presenceDeadlineExpires t => Sys2Proof.Machine.execPresenceDeadlineExpires t s
  | .staleDeadlineExpires t station => Sys2Proof.Machine.execStaleDeadlineExpires t station s
  | .lostDeadlineExpires t station => Sys2Proof.Machine.execLostDeadlineExpires t station s
  | .planHorizonDeadlineExpires t id => Sys2Proof.Machine.execPlanHorizonDeadlineExpires t id s
  | .missDeadlineExpires t id => Sys2Proof.Machine.execMissDeadlineExpires t id s
  | .armPointDeadlineExpires t id => Sys2Proof.Machine.execArmPointDeadlineExpires t id s
  | .orderMessageEnd t => Sys2Proof.Machine.execOrderMessageEnd t s
  | .neighbourClaimExpires t station id => Sys2Proof.Machine.execNeighbourClaimExpires t station id s
  | .bootDeadlineExpires t => Sys2Proof.Machine.execBootDeadlineExpires t s
  | .ready t => Sys2Proof.Machine.execReady t s
  | .readyDeadlineExpires t => Sys2Proof.Machine.execReadyDeadlineExpires t s
  | .pulseTimeReached t id frame => Sys2Proof.Machine.execPulseTimeReached t id frame s
  | .issuePulse t => Sys2Proof.Machine.execIssuePulse t s
  | .triggerEnd t => Sys2Proof.Machine.execTriggerEnd t s
  | .flashInstant t id frame => Sys2Proof.Machine.execFlashInstant t id frame s
  | .flashFireEnd t => Sys2Proof.Machine.execFlashFireEnd t s
  | .flashReturn t => Sys2Proof.Machine.execFlashReturn t s
  | .returnDeadlineExpires t id frame => Sys2Proof.Machine.execReturnDeadlineExpires t id frame s
  | .status t => Sys2Proof.Machine.execStatus t s
  | .takeRecord t => Sys2Proof.Machine.execTakeRecord t s
  | .peekPeers t => Sys2Proof.Machine.execPeekPeers t s
  | .peekTracks t => Sys2Proof.Machine.execPeekTracks t s
  | .forceBeams t curtain mask pattern => Sys2Proof.Machine.execForceBeams t curtain mask pattern s
  | .clearLockout t unit camRdy => Sys2Proof.Machine.execClearLockout t unit camRdy s
  | .restart t stn role => Sys2Proof.Machine.execRestart t stn role s
  | .invalidCommand t bytes => Sys2Proof.Machine.execInvalidCommand t bytes s
  | .serviceByteError t byte framingError => Sys2Proof.Machine.execServiceByteError t byte framingError s
  | .gapDeadlineExpires t => Sys2Proof.Machine.execGapDeadlineExpires t s
  | .replyEnd t stn role camRdy => Sys2Proof.Machine.execReplyEnd t stn role camRdy s
  | .serviceByteReceived t byte => Sys2Proof.Machine.execServiceByteReceived t byte s
  | .rstNAsserted => Sys2Proof.Machine.execRstNAsserted s

end Sys2Proof.Machine
end

