-- ==== Sys2Proof/Safety.lean ====
section
/-! DEFINITION. The terms the statements use: the state a command leaves, and the properties every step keeps. -/

namespace Sys2Proof.Machine

/-- The state after a command whose effect leaves the part `d`: the indicator follows (R199), the queue stays. -/
def settled (s : State) (d : Device) : State := { s with dev := refreshIndicator d }

/-- The part as a command at local time t finds it: not held by RST_N, with the clock at t unless that lies behind. -/
abbrev FoundAt (t : Time) (s : State) (d : Device) : Prop := s.dev.pins.rstActive = false ∧ d = advanceTo t s.dev

/-- The CIU evaluates curtain c, which belongs to a pair with configuration pc (R2). -/
abbrev Evaluated (d : Device) (c : Fin 4) (pc : PairConfig) : Prop :=
  stationWorks d = true ∧ enabledPair d (pairOf c) = some pc

/-- A curtain with one beam replaced. -/
def withBeam (cu : Curtain) (i : Fin 8) (b : Beam) : Curtain := { cu with beams := cu.beams.set i.val b i.isLt }

/-- A curtain back in CLEAR: break start, validation deadline and both sets gone (R9, R10). -/
def withBreakGone (cu : Curtain) : Curtain :=
  { cu with
    breakState := .clear, breakStart := none, validationDeadline := none, breakBeams := 0#8, breakMasked := 0#8 }

/-- A sequencer back in IDLE: times, deadline and held expiry gone (R14 to R16). -/
def withPassageGone (q : Sequencer) : Sequencer :=
  { q with state := .idle, t1 := none, t2 := none, orphanDeadline := none, expiryHeld := false, pendingOuter := none }

/-- The copy the idle instant would accept, with its frame mark and body (R38, R39). -/
def acceptedCopy (d : Device) : Option (Time × List Byte) :=
  chooseCopy d.liu.preferred (judgeCopy d.liu.ownDrive d.liu.pairA).2 (judgeCopy d.liu.ownDrive d.liu.pairB).2

/-- The part at an idle instant, before an accepted frame is handed on: the line IDLE, a transmitter in WAIT_IDLE counting
its wait from now (R27, R29), both quality counters updated (R40), and the preferred pair moved with LINE_SWITCHOVER when
it stands at 64 or more and at least 32 above the other (R41). -/
def lineIdled (d : Device) : Device :=
  let a := (judgeCopy d.liu.ownDrive d.liu.pairA).1
  let b := (judgeCopy d.liu.ownDrive d.liu.pairB).1
  let pairA : PairState := { d.liu.pairA with quality := nextQuality a b d.liu.pairA.quality }
  let pairB : PairState := { d.liu.pairB with quality := nextQuality b a d.liu.pairB.quality }
  let own : Nat := if d.liu.preferred = .a then pairA.quality else pairB.quality
  let other : Nat := if d.liu.preferred = .a then pairB.quality else pairA.quality
  let moves := decide (64 ≤ own) && decide (other + 32 ≤ own)
  let waiting := decide (d.liu.transmitter = .waitIdle)
  { d with
    liu := { d.liu with
      busy := false, quietDeadline := none, pairA := pairA, pairB := pairB,
      preferred := if moves then otherPair d.liu.preferred else d.liu.preferred,
      transmitter := if waiting then .defer else d.liu.transmitter,
      waitOrigin := if waiting then some d.clock else d.liu.waitOrigin,
      slotEnd := if waiting then
          d.fx.queue.head?.map fun e => laterBy d.clock ((classOf e.out * 32 + ownNumber d) * 5)
        else d.liu.slotEnd },
    rqs := { d.rqs with flags := if moves then d.rqs.flags ||| flagBit .lineSwitchover else d.rqs.flags } }

/-- The record of a track that closes CAPTURED or PARTIAL (R105, R109, TABLE 5-8), with the passage number advanced
(R175). -/
def closedRecord (d : Device) (outcome : TrackOutcome) (tr : Track) : Record :=
  .capture { captureRecord (ownTrack d) outcome .none
    { tr with flags := { tr.flags with unverified := tr.flags.unverified || tr.verify.isNone } } with
    passage := bcdSucc d.rqs.passage }

/-- The record of a track that closes MISSED (R108, R109, TABLE 5-8), with the passage number held (R175). -/
def missedRecord (d : Device) (reason : Reason) (tr : Track) : Record :=
  .capture { captureRecord (ownTrack d) .missed reason
    { tr with flags := { tr.flags with unverified := tr.flags.unverified || tr.verify.isNone } } with
    passage := d.rqs.passage }

/-- The bounds the spec states for lists, queues and counters: record queue (R174), outbound queue (R49), head-track
list (R81), neighbour claim list (R136), burst list (8.2), quality counters (R40), collision count (TABLE 2-1), too-far
count (R96). -/
abbrev Bounded (d : Device) : Prop :=
  d.rqs.records.length ≤ 32 ∧ d.fx.queue.length ≤ 8 ∧ d.htk.tracks.length ≤ 16 ∧ d.crs.claims.length ≤ 8
    ∧ d.cdu.bursts.length ≤ 2 ∧ d.liu.pairA.quality ≤ 255 ∧ d.liu.pairB.quality ≤ 255 ∧ d.liu.collisions ≤ 8
    ∧ d.htk.tooFar ≤ 65535

/-- Deadlines and values of Station Control belong to its states (TABLE 10-1, R190, R191, R194): the image is present
exactly while the blocks work; a listening deadline is present in LISTENING only; a page is read, or about to be, in
LOADING only, one of the two at a time; the station number lies in 1 to 31. -/
abbrev StationAgrees (d : Device) : Prop :=
  (d.cfl.image.isSome = stationWorks d) ∧ (d.cfl.listeningDeadline.isSome = true → d.cfl.station = .listening)
    ∧ (d.cfl.reading.isSome = true ∨ d.cfl.commonAt.isSome = true → d.cfl.station = .loading)
    ∧ (d.cfl.reading.isSome = true → d.cfl.commonAt = none)
    ∧ (∀ n, d.cfl.number = some n → 1 ≤ n ∧ n ≤ 31)

/-- Only a station in RUNNING offers or drives a frame (R36, R50, R58): in every other state the outbound queue is empty,
the transmitter is in EMPTY, nothing is driven, and no presence deadline runs. -/
abbrev OnlyRunningSends (d : Device) : Prop :=
  d.cfl.station ≠ .running →
    d.fx.queue = [] ∧ d.liu.transmitter = .empty ∧ d.liu.driven = none ∧ d.fx.presenceDeadline = none

/-- R24, R45, R63, R79, R111, R132, R152, R173, R194: while the station is in LOADING or CONFIG_FAULT the blocks hold
their reset values; of the curtains only the levels at the beam inputs differ. -/
abbrev ResetHeld (d : Device) : Prop :=
  stationWorks d = false →
    d.ciu = resetCiu d.ciu ∧ d.liu = Liu.reset ∧ d.fx = Fx.reset ∧ d.ptb = Ptb.reset ∧ d.htk = Htk.reset
      ∧ d.cpl = Cpl.reset ∧ d.crs = Crs.reset ∧ d.cdu = Cdu.reset ∧ d.fdu = Fdu.reset

/-- R169: each drive unit's count lies in 0 to 4, and the unit is LOCKED exactly when its count is 4; a READY is awaited
exactly while the camera is BUSY (TABLE 8-3). -/
abbrev LockoutsAgree (d : Device) : Prop :=
  d.cdu.timeouts ≤ 4 ∧ (d.cdu.state = .locked ↔ d.cdu.timeouts = 4) ∧ (d.cdu.outstanding.isSome = true ↔ d.cdu.state = .busy)
    ∧ d.fdu.misfires ≤ 4 ∧ (d.fdu.state = .locked ↔ d.fdu.misfires = 4)

/-- R199: the indicator shows the pattern of the conditions that hold, unless RST_N is active. -/
abbrev IndicatorShows (d : Device) : Prop := d.pins.rstActive = false → d.cfl.indicator = indicatorPattern d

/-- R81: no two live tracks share an id. -/
abbrev TracksDistinct (d : Device) : Prop := (d.htk.tracks.map (·.id)).Nodup

end Sys2Proof.Machine
end

