-- ==== Sys2Proof/Certificates/Slice0/Obligations.lean ====
section
/-! DEFINITION. The statements for the provers: what each command does by the numbered rules of spec/, and what every step
keeps. -/

section

open Sys2Proof Sys2Proof.Machine

/-! ### Taking commands -/

/-- The model's interface: a step takes the command at the front of the queue and runs its effect with the rest of the
queue. The model's choice (log 2): with nothing waiting, one microsecond of the station clock passes and nothing else
changes; while RST_N is active nothing changes at all. -/
def Obligations.StepTakesFront : Prop :=
  (∀ (c : Instr) (rest : List Instr) (s : State),
    s.pending = c :: rest → step s = exec c { s with pending := rest })
  ∧ (∀ s : State, s.pending = [] →
    (s.dev.pins.rstActive = false → step s = .next { s with dev := { s.dev with clock := s.dev.clock + 1#32 } })
    ∧ (s.dev.pins.rstActive = true → step s = .next s))

/-- The model's choice (log 3, log 25): while RST_N is active a command changes nothing, but POWER_ON, RST_N_ASSERTED
and a change at a beam input, which changes the level at that input alone. -/
def Obligations.HeldInReset : Prop :=
  ∀ s : State, s.dev.pins.rstActive = true →
    (∀ c : Instr, (∀ stn role, c ≠ .powerOn stn role) → c ≠ .rstNAsserted →
      (∀ t k i l, c ≠ .rawLevelChange t k i l) → exec c s = .next s)
    ∧ (∀ t k i l, exec (.rawLevelChange t k i l) s =
        .next { s with dev := modifyBeam k i (fun b => { b with raw := l }) s.dev })

/-! ### Start-up and station control -/

/-- R189, R190, R191, R199, R188: POWER_ON starts the clock at 0, every block at its reset values, POWER_UP latched and
the passage number 000000. With straps 1 to 31 the read of that page begins and ends 2,080 µs later, and SHORT_PULSE
starts; with straps 0 the station stands in CONFIG_FAULT and shows STEADY. The beam inputs keep their levels. It rests
on the model's choices of log 5 and log 25. -/
def Obligations.PowerOnStartsLoad : Prop :=
  ∀ (stn : BitVec 5) (role : Role) (s : State),
    let blank : Device :=
      { clock := 0#32, pins := { rstActive := false, stn := stn, role := role, camRdy := s.dev.pins.camRdy },
        cfl := { Cfl.reset with role := some role }, ciu := resetCiu s.dev.ciu, liu := Liu.reset, fx := Fx.reset,
        ptb := Ptb.reset, htk := Htk.reset, cpl := Cpl.reset, crs := Crs.reset, cdu := Cdu.reset, fdu := Fdu.reset,
        rqs := Rqs.reset 0#24 (flagBit .powerUp) }
    (stn ≠ 0#5 → exec (.powerOn stn role) s = .next { s with dev := { blank with cfl := { blank.cfl with
        number := some stn.toNat, loadStep := .readStation, reading := some (stn.toNat, 2080#32),
        indicator := .shortPulse, indActive := true, phaseDeadline := some 100000#32 } } })
    ∧ (stn = 0#5 → exec (.powerOn stn role) s = .next { s with dev := { blank with cfl := { blank.cfl with
        station := .configFault, indicator := .steady, indActive := true, phaseDeadline := none } } })

/-- R189: RST_N_ASSERTED makes every output inactive. The model's choices: what the part holds meanwhile, every block at
its reset values and no event flag (log 27); the clock that stands (log 2, log 3); the beam inputs that keep their levels
(log 25). -/
def Obligations.ResetPinStopsOutputs : Prop :=
  ∀ s : State, ∃ d : Device,
    exec .rstNAsserted s = .next { s with dev := d }
    ∧ d = { clock := s.dev.clock, pins := { s.dev.pins with rstActive := true }, cfl := Cfl.reset,
            ciu := resetCiu s.dev.ciu, liu := Liu.reset, fx := Fx.reset, ptb := Ptb.reset, htk := Htk.reset,
            cpl := Cpl.reset, crs := Crs.reset, cdu := Cdu.reset, fdu := Fdu.reset, rqs := Rqs.reset 0#24 0#15 }
    ∧ camTrg d = false ∧ flFire d = false ∧ lineEnabled d = false ∧ memorySelected d = false ∧ atn d = false
    ∧ lineSent d = none ∧ memoryRequest d = none
    ∧ d.rqs.reply = none ∧ d.cfl.indActive = false
    ∧ ∀ c i, ((curtain d c).beams.get i).raw = ((curtain s.dev c).beams.get i).raw

/-- R192: a page of 256 bytes is valid exactly when its first byte is A6h and its bytes sum to 0 modulo 256; a page read
from a line held at one level is not. -/
def Obligations.PageValidity : Prop :=
  (∀ page : List Byte, page.length = 256 →
    (pageValid page = true ↔ page[0]? = some 0xA6#8 ∧ (page.map (·.toNat)).sum % 256 = 0))
  ∧ pageValid (List.replicate 256 0x00#8) = false ∧ pageValid (List.replicate 256 0xFF#8) = false

/-- R191, R194: an invalid station page moves the load to READ_COMMON, with page 63 read 10 µs later; an invalid page 63
sends the station to CONFIG_FAULT with page used unchanged; the read of page 63, when its instant has come, ends 2,080
µs after it begins. The request sent in a read is 03h and the address of the page's first byte, n × 256. It rests on the
model's choices of log 1, log 3 and log 5. -/
def Obligations.InvalidPagesLead : Prop :=
  (∀ (d : Device) (n : Nat) (e : Time), n ≤ 63 → d.cfl.reading = some (n, e) →
      memoryRequest d = some [0x03#8, 0x00#8, BitVec.ofNat 8 n, 0x00#8])
  ∧ ∀ (t : Time) (s : State) (d : Device), FoundAt t s d →
    (∀ page camRdy n e, d.cfl.reading = some (n, e) → isAfter e d.clock = false → pageValid page = false →
      (d.cfl.loadStep = .readStation →
        exec (.pageReadComplete t page camRdy) s = .next (settled s { d with
          pins := { d.pins with camRdy := camRdy },
          cfl := { d.cfl with
            reading := none, loadStep := .readCommon, commonAt := some (d.clock + 10#32) } }))
      ∧ (d.cfl.loadStep = .readCommon →
        exec (.pageReadComplete t page camRdy) s = .next (settled s { d with
          pins := { d.pins with camRdy := camRdy },
          cfl := { d.cfl with reading := none, station := .configFault } })))
    ∧ (∀ a, d.cfl.commonAt = some a → isAfter a d.clock = false →
        exec (.commonPageReadStart t) s = .next (settled s { d with
          cfl := { d.cfl with reading := some (63, d.clock + 2080#32), commonAt := none } }))

/-- R191, R195, R75, R154, R25: a valid page takes a loading station to LISTENING. The load is DONE with the page used
and its image; the listening deadline lies 2,000,000 µs ahead; CONFIG_CLAMPED is latched exactly when a value was
clamped; the line starts BUSY with its quiet deadline 10 µs ahead; in the camera role the boot deadline lies one boot
window ahead, or a CAM_RDY already active ends BOOTING at once; the approach role leaves the drive units alone. It rests
on the model's choices of log 1, log 3 and log 5. -/
def Obligations.ValidPageEntersListening : Prop :=
  ∀ (t : Time) (page : List Byte) (camRdy : Bool) (s : State) (d : Device) (n : Nat) (e : Time) (role : Role),
    FoundAt t s d → StationAgrees d → ResetHeld d → d.cfl.station = .loading → d.cfl.role = some role →
    d.cfl.reading = some (n, e) → isAfter e d.clock = false → pageValid page = true →
    (d.cfl.loadStep = .readStation ∨ d.cfl.loadStep = .readCommon) →
    ∃ ciu : Ciu,
      exec (.pageReadComplete t page camRdy) s = .next (settled s { d with
        pins := { d.pins with camRdy := camRdy },
        cfl := { d.cfl with
          station := .listening, loadStep := .done, image := some (imageOf role page), reading := none,
          pageUsed := if d.cfl.loadStep = .readStation then .station else .common,
          listeningDeadline := some (d.clock + 2000000#32) },
        ciu := ciu,
        liu := { Liu.reset with
          busy := true, quietDeadline := some (d.clock + 10#32),
          pairA := { Liu.reset.pairA with silenceFrom := some d.clock },
          pairB := { Liu.reset.pairB with silenceFrom := some d.clock } },
        ptb := if role = .camera then
            { Ptb.reset with
              verifyUp := verifySide (imageOf role page) .up, verifyDown := verifySide (imageOf role page) .down }
          else Ptb.reset,
        cdu := if role = .camera then
            (if camRdy then { Cdu.reset with state := .idle }
             else { Cdu.reset with
               bootDeadline := some (d.clock + BitVec.ofNat 32 ((imageOf role page).bootWindow * 1000)) })
          else Cdu.reset,
        rqs := { d.rqs with
          flags := if pageClamped role page then d.rqs.flags ||| flagBit .configClamped else d.rqs.flags } })

/-- R2: evaluation begins from the beam inputs as they stand. At entry to LISTENING each interrupted beam of an enabled
pair begins its stuck timing, each of its curtains whose count already reaches min beams begins a break, and none is
DEAD; the curtains of a disabled pair and both sequencers keep their reset values. It rests on the model's choices of
log 1, log 3 and log 25. -/
def Obligations.EvaluationBegins : Prop :=
  ∀ (t : Time) (page : List Byte) (camRdy : Bool) (s : State) (d : Device) (n : Nat) (e : Time) (role : Role),
    FoundAt t s d → StationAgrees d → ResetHeld d → d.cfl.station = .loading → d.cfl.role = some role →
    d.cfl.reading = some (n, e) → isAfter e d.clock = false → pageValid page = true →
    (d.cfl.loadStep = .readStation ∨ d.cfl.loadStep = .readCommon) →
    let im := imageOf role page
    ∃ s' : State, exec (.pageReadComplete t page camRdy) s = .next s'
      ∧ s'.dev.ciu.pairs = d.ciu.pairs
      ∧ ∀ c : Fin 4,
        let pc := pairConfig im (pairOf c)
        let was := curtain d c
        let now := curtain s'.dev c
        (pc.enabled = false → now = was)
        ∧ (pc.enabled = true →
            (∀ i, now.beams.get i = { was.beams.get i with
              stuckDeadline :=
                if (was.beams.get i).raw then some (d.clock + BitVec.ofNat 32 (im.stuckLimit * 1000)) else none })
            ∧ now.dead = false
            ∧ (beamCount (·.raw) was < pc.minBeams → now.breakState = .clear ∧ now.breakStart = none)
            ∧ (pc.minBeams ≤ beamCount (·.raw) was →
                now.breakState = .pending ∧ now.breakStart = some d.clock
                ∧ now.validationDeadline = some (d.clock + BitVec.ofNat 32 pc.minBreak)
                ∧ now.breakBeams = beamSet (·.raw) was ∧ now.breakMasked = 0#8))

/-- R196, R58, R51, R29: the listening deadline takes the station to RUNNING. The first PRESENCE is queued, the presence
deadline lies one presence period ahead, and the transmitter waits for the idle instant on a BUSY line, or counts its
wait of (2 × 32 + station number) × 5 µs from this instant on an IDLE one. It rests on the model's choices of log 1 and
log 3. -/
def Obligations.ListeningEndsInRunning : Prop :=
  ∀ (t : Time) (s : State) (d : Device) (a : Time) (n : Nat) (im : Image),
    FoundAt t s d → OnlyRunningSends d → d.cfl.station = .listening → d.cfl.listeningDeadline = some a →
    isAfter a d.clock = false → d.cfl.number = some n → d.cfl.image = some im → d.liu.collided = none →
    exec (.listeningDeadlineExpires t) s = .next (settled s { d with
      cfl := { d.cfl with station := .running, listeningDeadline := none },
      fx := { queue := [{ order := d.fx.nextOrder, out := .presence, onLine := false, revision := none,
                          withdrawn := false }],
              nextOrder := d.fx.nextOrder + 1,
              presenceDeadline := some (d.clock + BitVec.ofNat 32 (im.presencePeriod * 1000)) },
      liu := if d.liu.busy then { d.liu with transmitter := .waitIdle, waitOrigin := none, slotEnd := none }
        else { d.liu with
          transmitter := .defer, waitOrigin := some d.clock,
          slotEnd := some (d.clock + BitVec.ofNat 32 ((2 * 32 + n) * 5)) } })

/-- R199, TABLE 10-6: the pattern due is the first of the table whose condition holds. At the phase deadline of a
blinking pattern IND changes to the other part, 500,000 µs for each part of SLOW_BLINK, 100,000 µs active and 900,000 µs
inactive for SHORT_PULSE, while the pattern that is due is the one shown. It rests on the model's choices of log 1 and
log 3. -/
def Obligations.IndicatorPatterns : Prop :=
  (∀ d : Device,
    (d.cfl.station = .configFault ∨ d.cfl.station = .silent → indicatorPattern d = .steady)
    ∧ (d.cfl.station = .loading ∨ d.cfl.station = .listening ∨ d.cfl.station = .running →
        (d.cdu.state = .locked ∨ d.fdu.state = .locked → indicatorPattern d = .slowBlink)
        ∧ (d.cdu.state ≠ .locked → d.fdu.state ≠ .locked →
            (d.cfl.station ≠ .running ∨ (∃ c, (curtain d c).dead = true)
                ∨ (∃ x, (verifyD d x).isSome = true ∧ approachCover d x = 0) →
              indicatorPattern d = .shortPulse)
            ∧ (d.cfl.station = .running → (∀ c, (curtain d c).dead = false) →
                (∀ x, (verifyD d x).isSome = true → approachCover d x ≠ 0) → indicatorPattern d = .off))))
  ∧ (∀ (t : Time) (s : State) (d : Device) (a : Time),
    FoundAt t s d → d.cfl.phaseDeadline = some a → isAfter a d.clock = false → d.cfl.indicator = indicatorPattern d →
    (d.cfl.indicator = .slowBlink →
      exec (.indicatorPhaseExpires t) s = .next { s with dev := { d with cfl := { d.cfl with
        indActive := !d.cfl.indActive, phaseDeadline := some (d.clock + 500000#32) } } })
    ∧ (d.cfl.indicator = .shortPulse →
      exec (.indicatorPhaseExpires t) s = .next { s with dev := { d with cfl := { d.cfl with
        indActive := !d.cfl.indActive,
        phaseDeadline := some (d.clock + if d.cfl.indActive then 900000#32 else 100000#32) } } }))

/-! ### Curtains -/

/-- R5, R6: a change of raw level on an evaluated beam, forced or not. Unmasked, INTERRUPTED sets the stuck deadline the
stuck limit ahead and CLEAR removes it; masked, CLEAR sets the unmask deadline 1,000 ms ahead and INTERRUPTED removes
it. No other beam changes, and neither do the station state, the peer table and the neighbour claims. In LOADING and
CONFIG_FAULT, and on a disabled pair, nothing changes but the level at that input (R2); a level that is already there
changes nothing. It rests on the model's choices of log 1 and log 25. -/
def Obligations.RawLevelTimes : Prop :=
  ∀ (t : Time) (c : Fin 4) (i : Fin 8) (l : Bool) (s : State) (d : Device), FoundAt t s d →
    let b := (curtain d c).beams.get i
    (b.raw = l → exec (.rawLevelChange t c i l) s = .next (settled s d))
    ∧ (b.raw = !l → (stationWorks d = false ∨ enabledPair d (pairOf c) = none) →
      exec (.rawLevelChange t c i l) s = .next (settled s
        (setCurtain c (withBeam (curtain d c) i { b with raw := l }) d)))
    ∧ (∀ (pc : PairConfig) (im : Image), Evaluated d c pc → d.cfl.image = some im → b.raw = !l →
    ∃ (ciu : Ciu) (liu : Liu) (fx : Fx) (htk : Htk) (cpl : Cpl) (cdu : Cdu) (fdu : Fdu) (rqs : Rqs),
      exec (.rawLevelChange t c i l) s = .next (settled s { d with
        ciu := ciu, liu := liu, fx := fx, htk := htk, cpl := cpl, cdu := cdu, fdu := fdu, rqs := rqs })
      ∧ (ciu.curtains.get c).beams.get i = { b with
          raw := l,
          stuckDeadline :=
            if b.masked then b.stuckDeadline
            else if l then some (d.clock + BitVec.ofNat 32 (im.stuckLimit * 1000)) else none,
          unmaskDeadline :=
            if b.masked then (if l then none else some (d.clock + 1000000#32)) else b.unmaskDeadline }
      ∧ (∀ k j, ¬ (k = c ∧ j = i) → (ciu.curtains.get k).beams.get j = (curtain d k).beams.get j)
      ∧ (∀ k, k ≠ c → ciu.curtains.get k = curtain d k))

/-- R5, R8: an unmasked, unforced beam is interrupted while its curtain is CLEAR and not DEAD. Below min beams only the
beam changes; at min beams a break begins: PENDING, break start now, validation deadline min break ahead, and the sets
of the beams interrupted and of those masked and unforced. Nothing else changes. It rests on the model's choices of log
1. -/
def Obligations.BreakBegins : Prop :=
  ∀ (t : Time) (c : Fin 4) (i : Fin 8) (s : State) (d : Device) (pc : PairConfig) (im : Image),
    FoundAt t s d → Evaluated d c pc → d.cfl.image = some im →
    (curtain d c).breakState = .clear → (curtain d c).dead = false → pc.minBeams ≤ beamCount usable (curtain d c) →
    ((curtain d c).beams.get i).raw = false → ((curtain d c).beams.get i).masked = false →
    ((curtain d c).beams.get i).forceMask = false →
    let cu := withBeam (curtain d c) i { (curtain d c).beams.get i with
      raw := true, stuckDeadline := some (d.clock + BitVec.ofNat 32 (im.stuckLimit * 1000)) }
    (beamCount interrupted cu < pc.minBeams →
      exec (.rawLevelChange t c i true) s = .next (settled s (setCurtain c cu d)))
    ∧ (pc.minBeams ≤ beamCount interrupted cu →
      exec (.rawLevelChange t c i true) s = .next (settled s (setCurtain c { cu with
        breakState := .pending, breakStart := some d.clock,
        validationDeadline := some (d.clock + BitVec.ofNat 32 pc.minBreak),
        breakBeams := beamSet interrupted cu, breakMasked := beamSet maskedUnforced cu } d)))

/-- R9: a break in PENDING whose count falls below min beams is ignored: the curtain is CLEAR again with no start, no
deadline and no sets, and with no expiry held the sequencer receives nothing. While the count stays, the break goes on
and beams only join its sets (R8). It rests on the model's choices of log 1 and log 17. -/
def Obligations.PendingBreakIgnored : Prop :=
  ∀ (t : Time) (c : Fin 4) (i : Fin 8) (s : State) (d : Device) (pc : PairConfig),
    FoundAt t s d → Evaluated d c pc → (curtain d c).breakState = .pending → (curtain d c).dead = false →
    pc.minBeams ≤ beamCount usable (curtain d c) → (sequencer d (pairOf c)).expiryHeld = false →
    ((curtain d c).beams.get i).raw = true → ((curtain d c).beams.get i).masked = false →
    ((curtain d c).beams.get i).forceMask = false →
    let cu := withBeam (curtain d c) i { (curtain d c).beams.get i with raw := false, stuckDeadline := none }
    (beamCount interrupted cu < pc.minBeams →
      exec (.rawLevelChange t c i false) s = .next (settled s (setCurtain c (withBreakGone cu) d)))
    ∧ (pc.minBeams ≤ beamCount interrupted cu →
      exec (.rawLevelChange t c i false) s = .next (settled s (setCurtain c { cu with
        breakBeams := cu.breakBeams ||| beamSet interrupted cu,
        breakMasked := cu.breakMasked ||| beamSet maskedUnforced cu } d)))

/-- R10, R15, R16, R19, R21, R22, R94 to R96, R102, R174, R175: the end of a break that completes a passage. The
sequencer returns to IDLE and the curtain to CLEAR. An inner break end in INNER makes the passage event with the speed
and the height band of the break's sets, and the next approach sequence; outside RUNNING its SIGHTING request is refused,
in RUNNING it joins a queue that has a place. In the approach role it also makes an APPROACHING record with the passage
number advanced. In the camera role it is a verify event, on the own track only: one that fits no track makes a
VERIFY_ONLY track in PREDICTED while its plan horizon is ahead, or counts as too far; one that fits a track in EXPOSING
is stored with its residual; one that fits a track in ARMED trims the burst by the residual within the trim limit, no
pulse being due then. An outer break end in DEPARTING with t2 present makes a DEPARTING record with the number then held
in the approach role, and none in the camera role. It rests on the model's choices of log 1, log 17 and log 32. -/
def Obligations.PassageRecorded : Prop :=
  ∀ (t : Time) (c : Fin 4) (i : Fin 8) (s : State) (d : Device) (pc : PairConfig) (t1 t2 : Time),
    FoundAt t s d → Evaluated d c pc → d.rqs.records.length < 32 →
    (curtain d c).breakState = .broken → (curtain d c).dead = false → pc.minBeams ≤ beamCount usable (curtain d c) →
    ((curtain d c).beams.get i).raw = true → ((curtain d c).beams.get i).masked = false →
    ((curtain d c).beams.get i).forceMask = false →
    let q := sequencer d (pairOf c)
    let cu := withBeam (curtain d c) i { (curtain d c).beams.get i with raw := false, stuckDeadline := none }
    let v := passageSpeed pc.b t1 t2
    let band := heightBand pc.heights (cu.breakBeams ||| beamSet interrupted cu)
      (cu.breakMasked ||| beamSet maskedUnforced cu)
    let ciu : Sequencer → Ciu := fun q' =>
      { curtains := d.ciu.curtains.set c.val (withBreakGone cu) c.isLt,
        pairs := d.ciu.pairs.set (pairOf c).val (withPassageGone q') (pairOf c).isLt }
    let requested : Fx → Liu → Prop := fun fx liu =>
      (d.cfl.station ≠ .running → fx = d.fx ∧ liu = d.liu)
      ∧ (d.cfl.station = .running → d.fx.queue.length < 8 →
          fx = { d.fx with
            nextOrder := d.fx.nextOrder + 1,
            queue := joinByClass
              { order := d.fx.nextOrder, onLine := false, revision := none, withdrawn := false,
                out := .sighting
                  { pair := pairOf c, track := pc.track, seq := q.approachSeq, v := v.1, band := band.1,
                    clamped := v.2, partialHeight := band.2, forced := q.forcedSeen, t2 := t2 } }
              d.fx.queue })
    let ev : VerifyEntry :=
      { d := pc.d, t2 := t2, v := v.1, band := band.1, partialHeight := band.2, forced := q.forcedSeen }
    let verified : Htk → Cdu → Prop := fun htk cdu => ∃ (fx : Fx) (liu : Liu),
      exec (.rawLevelChange t c i false) s = .next (settled s { d with
        ciu := ciu { q with approachSeq := q.approachSeq + 1#8 }, htk := htk, cdu := cdu, fx := fx, liu := liu })
      ∧ requested fx liu
    beamCount interrupted cu < pc.minBeams → q.t1 = some t1 → q.t2 = some t2 →
    (isOuter c = false → q.state = .inner → q.pendingOuter = none → d.cfl.role = some .approach →
      ∃ (fx : Fx) (liu : Liu),
        exec (.rawLevelChange t c i false) s = .next (settled s { d with
          ciu := ciu { q with approachSeq := q.approachSeq + 1#8 }, fx := fx, liu := liu,
          rqs := { d.rqs with
            passage := bcdSucc d.rqs.passage,
            records := d.rqs.records ++ [.sighting
              { passage := bcdSucc d.rqs.passage, pair := pairOf c, direction := .approaching, t1 := t1,
                t2v := some (t2, v.1), band := band.1, clamped := v.2, partialHeight := band.2,
                forced := q.forcedSeen }] } })
        ∧ requested fx liu)
    ∧ (∀ im : Image, d.cfl.image = some im → isOuter c = false → q.state = .inner → q.pendingOuter = none →
        d.cfl.role = some .camera →
      (pc.track ≠ im.ownTrack → verified d.htk d.cdu)
      ∧ (pc.track = im.ownTrack → (∀ tr ∈ d.htk.tracks, verifyFit pc.side ev tr = none) →
          let pr := predictVerify .verifyOnly ev
          (outOfReach im d.clock pr = true →
            verified { d.htk with tooFar := min 65535 (d.htk.tooFar + 1) } d.cdu)
          ∧ (outOfReach im d.clock pr = false → d.htk.tracks.length < 16 →
              isAfter (pr.tPred - BitVec.ofNat 32 (im.planHorizon * 1000)) d.clock = true →
            let id := freeId (d.htk.tracks.map (·.id)) 16 d.htk.nextId
            verified
              { d.htk with
                nextId := id + 1#8, nextCreated := d.htk.nextCreated + 1,
                tracks := (insertTrack { newcomer pc.side [] (some ev) pr false with
                    id := id, created := d.htk.nextCreated, missDeadline := some (missTime im pr) }
                  d.htk.tracks).map fun x =>
                    if x.id == id then
                      { x with planHorizon := some (pr.tPred - BitVec.ofNat 32 (im.planHorizon * 1000)) }
                    else x }
              d.cdu))
      ∧ (∀ (tr : Track) (k : Nat), pc.track = im.ownTrack → findTrack d tr.id = some tr →
          d.htk.tracks.filterMap (verifyFit pc.side ev) = [(tr, k)] →
          let residual := timeDiff (predictVerify .verified ev).tPred tr.pred.tPred
          (tr.state = .exposing →
            verified { d.htk with tracks := d.htk.tracks.map fun x =>
              if x.id == tr.id then
                { x with
                  verify := some ev, residual := some (timeDiff (predictVerify .verified ev).tPred x.pred.tPred),
                  flags := { x.flags with forced := x.flags.forced || q.forcedSeen } }
              else x } d.cdu)
          ∧ (tr.state = .armed →
              let moved := max (-(im.trimLimit : Int)) (min (im.trimLimit : Int) residual)
              (∀ b ∈ d.cdu.bursts, ∀ f ∈ b.frames, f.issued = false →
                isAfter (if b.trackId = tr.id then f.pulse + BitVec.ofInt 32 moved else f.pulse) d.clock = true) →
              verified
                { d.htk with
                  tracks := insertTrack { tr with
                    verify := some ev, residual := some residual,
                    pred := predictVerify (if tr.sightings = [] then .verifyOnly else .verified) ev,
                    frames := tr.frames.map fun f =>
                      if f.pulsed then f else { f with pulse := f.pulse + BitVec.ofInt 32 moved },
                    flags := { tr.flags with
                      forced := tr.flags.forced || q.forcedSeen,
                      trimClamped := tr.flags.trimClamped || moved != residual } }
                    (d.htk.tracks.filter fun x => x.id != tr.id) }
                { d.cdu with bursts := d.cdu.bursts.map fun b =>
                    if b.trackId == tr.id then
                      { b with frames := b.frames.map fun f =>
                          if !f.issued && f.outcome.isNone then
                            { f with pulse := f.pulse + BitVec.ofInt 32 moved, overdue := false }
                          else f }
                    else b })))
    ∧ (isOuter c = true → q.state = .departing → d.cfl.role = some .approach →
        exec (.rawLevelChange t c i false) s = .next (settled s { d with
          ciu := ciu q,
          rqs := { d.rqs with
            records := d.rqs.records ++ [.sighting
              { passage := d.rqs.passage, pair := pairOf c, direction := .departing, t1 := t1,
                t2v := some (t2, v.1), band := none, clamped := v.2, partialHeight := false,
                forced := q.forcedSeen }] } }))
    ∧ (isOuter c = true → q.state = .departing → d.cfl.role = some .camera →
        exec (.rawLevelChange t c i false) s = .next (settled s { d with ciu := ciu q }))

/-- R5, R6, R11: the stuck deadline masks a beam and latches BEAM_MASKED, the unmask deadline unmasks it and latches
BEAM_UNMASKED. On a CLEAR curtain whose interrupted count stays below min beams nothing else changes but the dead flag,
which is yes exactly while the usable count lies below min beams, with CURTAIN_DEAD latched on entry. It rests on the
model's choices of log 1 and log 3. -/
def Obligations.MaskingTimes : Prop :=
  ∀ (t : Time) (c : Fin 4) (i : Fin 8) (s : State) (d : Device) (pc : PairConfig) (a : Time),
    FoundAt t s d → Evaluated d c pc → (curtain d c).breakState = .clear → isAfter a d.clock = false →
    let b := (curtain d c).beams.get i
    let after : Beam → EventFlag → Device := fun b' f =>
      let cu := withBeam (curtain d c) i b'
      let dead := decide (beamCount usable cu < pc.minBeams)
      let flags := d.rqs.flags ||| flagBit f
      { setCurtain c { cu with dead := dead } d with
        rqs := { d.rqs with
          flags := if dead && !(curtain d c).dead then flags ||| flagBit .curtainDead else flags } }
    (b.stuckDeadline = some a →
      beamCount interrupted (withBeam (curtain d c) i { b with masked := true }) < pc.minBeams →
      exec (.stuckDeadlineExpires t c i) s = .next (settled s
        (after { b with stuckDeadline := none, masked := true, unmaskDeadline := none } .beamMasked)))
    ∧ (b.unmaskDeadline = some a →
      beamCount interrupted (withBeam (curtain d c) i { b with masked := false }) < pc.minBeams →
      exec (.unmaskDeadlineExpires t c i) s = .next (settled s
        (after { b with unmaskDeadline := none, masked := false } .beamUnmasked)))

/-- R9, R12, R13, R15, R16, R20: the validation deadline makes a break valid: the curtain is BROKEN, and the sequencer
takes the break start as the break's time. In IDLE an outer break enters OUTER and an inner break DEPARTING, with the
orphan deadline b × 2,000 µs after t1 and forced seen set from the force masks of the pair; in OUTER an inner break
enters INNER with t2; in INNER an outer break is held as the pending outer time; in DEPARTING without t2 an outer break
gives t2. It rests on the model's choices of log 1 and log 3. -/
def Obligations.ValidBreakMovesSequencer : Prop :=
  ∀ (t : Time) (c : Fin 4) (s : State) (d : Device) (pc : PairConfig) (a start : Time),
    FoundAt t s d → enabledPair d (pairOf c) = some pc → (curtain d c).validationDeadline = some a →
    isAfter a d.clock = false → (curtain d c).breakStart = some start →
    let q := sequencer d (pairOf c)
    let after : Sequencer → State := fun q' => settled s
      (setSequencer (pairOf c) q' (setCurtain c { curtain d c with breakState := .broken, validationDeadline := none } d))
    let fresh : SequencerState → Sequencer := fun st => { q with
      state := st, t1 := some start, t2 := none, orphanDeadline := some (start + BitVec.ofNat 32 (pc.b * 2000)),
      expiryHeld := false, pendingOuter := none, forcedSeen := anyForced d (pairOf c) }
    (q.state = .idle → exec (.validationDeadlineExpires t c) s =
        .next (after (fresh (if isOuter c then .outer else .departing))))
    ∧ (q.state = .outer → isOuter c = false → exec (.validationDeadlineExpires t c) s =
        .next (after { q with state := .inner, t2 := some start, orphanDeadline := none, expiryHeld := false }))
    ∧ (q.state = .inner → isOuter c = true → q.pendingOuter = none → exec (.validationDeadlineExpires t c) s =
        .next (after { q with pendingOuter := some start }))
    ∧ (q.state = .departing → q.t2 = none → isOuter c = true → exec (.validationDeadlineExpires t c) s =
        .next (after { q with t2 := some start, orphanDeadline := none, expiryHeld := false }))
    ∧ (q.state = .departing → q.t2 = none → isOuter c = false → exec (.validationDeadlineExpires t c) s =
        .next (after { q with
          t1 := some start, orphanDeadline := some (start + BitVec.ofNat 32 (pc.b * 2000)), expiryHeld := false }))

/-- R14, R16, R21, R22: the orphan deadline. While the curtain that could still supply t2 is PENDING the expiry is held.
Otherwise the sequencer returns to IDLE; from OUTER in the approach role with an ORPHAN record of t1 and the forced
flag, from OUTER in the camera role and from DEPARTING with no record. It rests on the model's choices of log 1 and log
3. -/
def Obligations.OrphanDeadline : Prop :=
  ∀ (t : Time) (p : Fin 2) (s : State) (d : Device) (a t1 : Time),
    FoundAt t s d → (sequencer d p).orphanDeadline = some a → isAfter a d.clock = false →
    (sequencer d p).t1 = some t1 → d.rqs.records.length < 32 →
    let q := sequencer d p
    let waited := if q.state = .outer then innerOf p else outerOf p
    (q.state = .outer ∨ q.state = .departing → (curtain d waited).breakState = .pending →
      exec (.orphanDeadlineExpires t p) s = .next (settled s
        (setSequencer p { q with orphanDeadline := none, expiryHeld := true } d)))
    ∧ (q.state = .outer → (curtain d waited).breakState ≠ .pending → d.cfl.role = some .approach →
      exec (.orphanDeadlineExpires t p) s = .next (settled s
        { setSequencer p (withPassageGone q) d with
          rqs := { d.rqs with records := d.rqs.records ++ [.sighting
            { passage := d.rqs.passage, pair := p, direction := .orphan, t1 := t1, t2v := none, band := none,
              clamped := false, partialHeight := false, forced := q.forcedSeen }] } }))
    ∧ ((q.state = .outer ∧ d.cfl.role = some .camera ∨ q.state = .departing) →
      (curtain d waited).breakState ≠ .pending →
      exec (.orphanDeadlineExpires t p) s = .next (settled s (setSequencer p (withPassageGone q) d)))

/-- R17: v = round(b × 1,000,000 / dt); a dt of 0, or a quotient above 120,000, gives 120,000 mm/s and CLAMPED. With dt
at most the orphan limit of a baseline in its range, v lies in 500 to 120,000 mm/s. -/
def Obligations.PassageSpeed : Prop :=
  ∀ (b : Nat) (t1 t2 : Time),
    let dt := (t2 - t1).toNat
    (dt = 0 → passageSpeed b t1 t2 = (120000, true))
    ∧ (dt ≠ 0 → ∃ q : Nat, 2 * q * dt ≤ 2 * (b * 1000000) + dt ∧ 2 * (b * 1000000) + dt < 2 * (q + 1) * dt
        ∧ (120000 < q → passageSpeed b t1 t2 = (120000, true)) ∧ (q ≤ 120000 → passageSpeed b t1 t2 = (q, false)))
    ∧ (1000 ≤ b → b ≤ 4000 → dt ≤ b * 2000 →
        500 ≤ (passageSpeed b t1 t2).1 ∧ (passageSpeed b t1 t2).1 ≤ 120000)

/-- R18: the union is the break beam set restricted to beams whose height is not 0. Empty, there is no band and no
PARTIAL_HEIGHT; otherwise low and high are the smallest and the largest height of the union, and PARTIAL_HEIGHT is set
exactly when the masked set holds a beam from one below the lowest to one above the highest of the union. -/
def Obligations.HeightBand : Prop :=
  ∀ (heights : List Nat) (beams masked : Byte),
    let inUnion := fun i : Nat => i < 8 ∧ beams.getLsbD i = true ∧ heights.getD i 0 ≠ 0
    ((∀ i, ¬ inUnion i) → heightBand heights beams masked = (none, false))
    ∧ ((∃ i, inUnion i) → ∃ low high lowest highest,
        (heightBand heights beams masked).1 = some (low, high)
        ∧ (∃ i, inUnion i ∧ heights.getD i 0 = low) ∧ (∃ i, inUnion i ∧ heights.getD i 0 = high)
        ∧ (∀ i, inUnion i → low ≤ heights.getD i 0 ∧ heights.getD i 0 ≤ high)
        ∧ inUnion lowest ∧ inUnion highest ∧ (∀ i, inUnion i → lowest ≤ i ∧ i ≤ highest)
        ∧ ((heightBand heights beams masked).2 = true ↔
            ∃ k, k < 8 ∧ masked.getLsbD k = true ∧ lowest ≤ k + 1 ∧ k ≤ highest + 1))

/-! ### The gantry line -/

/-- R27, R28, R30, R37: a transition of a NORMAL pair on an IDLE line. A busy period begins: BUSY, quiet deadline 10 µs
ahead, both copies NONE; a waiting transmitter gives its wait up; the pair's activity starts now unless it is being
watched since an earlier instant. The bit times heard are gathered into the copy. It rests on the model's choices of log
1, log 6 and log 9. -/
def Obligations.TransitionBeginsBusyPeriod : Prop :=
  ∀ (t : Time) (p : LinePair) (heard : List LineSymbol) (s : State) (d : Device),
    FoundAt t s d → stationWorks d = true → (linePair d p).condition = .normal → d.liu.busy = false →
    let x := linePair d p
    let y := linePair d (otherPair p)
    let waiting := decide (d.liu.transmitter = .defer)
    exec (.lineTransition t p heard) s = .next (settled s
      (setLinePair p { x with
          silenceFrom := some d.clock, activityStart := some (x.activityStart.getD (x.silenceFrom.getD d.clock)),
          copy := heard.foldl hearSymbol { Copy.fresh false with firstSeen := some d.clock } }
        (setLinePair (otherPair p) { y with copy := Copy.fresh (y.condition == .jabbering) }
          { d with liu := { d.liu with
              busy := true, quietDeadline := some (d.clock + 10#32),
              transmitter := if waiting then .waitIdle else d.liu.transmitter,
              waitOrigin := if waiting then none else d.liu.waitOrigin,
              slotEnd := if waiting then none else d.liu.slotEnd,
              ownDrive := if d.liu.transmitter = .send then .driving else .nothing } })))

/-- R27, R28, R25, R37, R200: while the line is BUSY a transition of a NORMAL pair moves the quiet deadline to 10 µs
ahead, and the bit times heard are gathered into its copy; one of a JABBERING pair only restarts that pair's 10 µs; in
LOADING and CONFIG_FAULT activity is disregarded. Gathering: the eight symbols 1, 0, J, K, J, K, 1, 0 begin a copy, with
the end of the last as its frame mark, noted for BAD when the pair's first transition lies more than 8 µs before it; a 0
or a 1 then heard is a bit gathered, up to 528; a J or a K, or a bit beyond, is noted; a copy noted, or ended, gathers no
more. It rests on the model's choices of log 1, log 6, log 7 and log 8. -/
def Obligations.TransitionKeepsBusy : Prop :=
  (∀ (t : Time) (p : LinePair) (heard : List LineSymbol) (s : State) (d : Device), FoundAt t s d →
    let x := linePair d p
    (stationWorks d = true → x.condition = .normal → d.liu.busy = true →
      exec (.lineTransition t p heard) s = .next (settled s
        (setLinePair p { x with
            silenceFrom := some d.clock, activityStart := some (x.activityStart.getD (x.silenceFrom.getD d.clock)),
            copy := heard.foldl hearSymbol { x.copy with firstSeen := some (x.copy.firstSeen.getD d.clock) } }
          { d with liu := { d.liu with quietDeadline := some (d.clock + 10#32) } })))
    ∧ (stationWorks d = true → x.condition = .jabbering →
      exec (.lineTransition t p heard) s = .next (settled s (setLinePair p { x with silenceFrom := some d.clock } d)))
    ∧ (stationWorks d = false → exec (.lineTransition t p heard) s = .next (settled s d)))
  ∧ (∀ c : Copy,
    (∀ x, c.noted = true ∨ c.progress = .ended → hearSymbol c x = c)
    ∧ (∀ b e, c.noted = false → c.progress = .receiving →
        (c.bits.length < 528 →
          hearSymbol c { firstHalf := b, secondHalf := !b, ends := e } = { c with bits := c.bits ++ [b] })
        ∧ (528 ≤ c.bits.length →
          hearSymbol c { firstHalf := b, secondHalf := !b, ends := e } = { c with noted := true })
        ∧ hearSymbol c { firstHalf := b, secondHalf := b, ends := e } = { c with noted := true })
    ∧ (∀ e0 e1 e2 e3 e4 e5 e6 e7 : Time, c.noted = false → c.progress = .none → c.matched = 0 →
        [(⟨true, false, e0⟩ : LineSymbol), ⟨false, true, e1⟩, ⟨true, true, e2⟩, ⟨false, false, e3⟩, ⟨true, true, e4⟩,
            ⟨false, false, e5⟩, ⟨true, false, e6⟩, ⟨false, true, e7⟩].foldl hearSymbol c =
          { c with
            progress := .receiving, matched := 7, mark := some e7,
            noted := c.firstSeen.any fun f => isBefore f (e7 - 8#32) }))

/-- R28: a NORMAL pair that has held an activity start for 1,000 µs becomes JABBERING, and its copy is BAD from then on.
While the other pair has shown a transition in the last 10 µs, or no quiet deadline is held, nothing else changes; beside
a pair that has shown none the quiet deadline expires at once, as at QUIET_DEADLINE_EXPIRES. 10 µs without a transition
make a pair NORMAL, remove its activity start and end its copy. It rests on the model's choices of log 1, log 3, log 8
and log 10. -/
def Obligations.JabberingComesAndGoes : Prop :=
  ∀ (t : Time) (p : LinePair) (s : State) (d : Device), FoundAt t s d →
    let x := linePair d p
    let y := linePair d (otherPair p)
    let marked := setLinePair p { x with condition := .jabbering, copy := { x.copy with jabbered := true } } d
    let silent := y.silenceFrom = none ∨ ∃ w, y.silenceFrom = some w ∧ isAfter (w + 10#32) d.clock = false
    (∀ a, x.condition = .normal → x.activityStart = some a → isAfter (a + 1000#32) d.clock = false →
      (¬ silent ∨ d.liu.quietDeadline = none → exec (.enterJabbering t p) s = .next (settled s marked))
      ∧ (silent → d.liu.quietDeadline ≠ none →
          exec (.enterJabbering t p) s =
            exec (.quietDeadlineExpires t) { s with dev := { marked with
              liu := { marked.liu with quietDeadline := some d.clock } } }))
    ∧ (∀ w, x.silenceFrom = some w → isAfter (w + 10#32) d.clock = false →
      exec (.pairQuiet t p) s = .next (settled s
        (setLinePair p { x with
          condition := .normal, activityStart := none, silenceFrom := none,
          copy := { x.copy with
            progress := if x.copy.progress = .receiving then .ended else x.copy.progress } } d)))

/-- R40: a GOOD copy lowers its pair's counter by 1, a BAD or ABSENT copy beside a GOOD one raises it by 8, and
otherwise it stays; the counter stays within 0 to 255. -/
def Obligations.QualityCounts : Prop :=
  ∀ (own other : Judgement) (q : Nat), q ≤ 255 →
    nextQuality own other q ≤ 255
    ∧ (own = .good → (0 < q → nextQuality own other q + 1 = q) ∧ (q = 0 → nextQuality own other q = 0))
    ∧ (own ≠ .good → other = .good →
        (q ≤ 247 → nextQuality own other q = q + 8) ∧ (247 ≤ q → nextQuality own other q = 255))
    ∧ (own ≠ .good → other ≠ .good → nextQuality own other q = q)

/-- R27, R29, R38 to R41, R44: the idle instant of a busy period without an accepted copy. The line is IDLE, both
quality counters stay, the preferred pair moves with LINE_SWITCHOVER exactly when it stands at 64 or more and at least
32 above the other, and a transmitter in WAIT_IDLE takes the instant as its wait origin. Nothing is handed on. It rests
on the model's choices of log 1, log 3, log 8 and log 9. -/
def Obligations.IdleInstantWithoutFrame : Prop :=
  ∀ (t : Time) (s : State) (d : Device) (a : Time),
    FoundAt t s d → d.liu.quietDeadline = some a → isAfter a d.clock = false →
    (judgeCopy d.liu.ownDrive d.liu.pairA).1 ≠ .good → (judgeCopy d.liu.ownDrive d.liu.pairB).1 ≠ .good →
    let moves := decide (64 ≤ qualityOf d d.liu.preferred)
      && decide (qualityOf d (otherPair d.liu.preferred) + 32 ≤ qualityOf d d.liu.preferred)
    let waiting := decide (d.liu.transmitter = .waitIdle)
    exec (.quietDeadlineExpires t) s = .next (settled s { d with
      liu := { d.liu with
        busy := false, quietDeadline := none,
        preferred := if moves then otherPair d.liu.preferred else d.liu.preferred,
        transmitter := if waiting then .defer else d.liu.transmitter,
        waitOrigin := if waiting then some d.clock else d.liu.waitOrigin,
        slotEnd := if waiting then
            d.fx.queue.head?.map fun e =>
              d.clock + BitVec.ofNat 32 ((classOf e.out * 32 + ownNumber d) * 5)
          else d.liu.slotEnd },
      rqs := { d.rqs with
        flags := if moves then d.rqs.flags ||| flagBit .lineSwitchover else d.rqs.flags } })

/-- R42, R43, R36, R59, R197: an accepted frame with the own station number that this station did not send whole in the
busy period is a clash: CLASH is latched. From LISTENING or RUNNING the station enters SILENT: the queue is emptied, no
deadline of the schedule or of LISTENING is left, the transmitter is EMPTY and drives nothing, and every CLAIM in the
queue that was not withdrawn leaves NO_CLAIM on its track. In SILENT nothing happens beyond CLASH and what every idle
instant does to the line: idle, quality counters, preferred pair, wait origin (R27, R29, R40, R41). Nothing else changes.
It rests on the model's choices of log 1, log 3 and log 8. -/
def Obligations.ClashSilences : Prop :=
  ∀ (t : Time) (s : State) (d : Device) (a mark : Time) (body : List Byte),
    FoundAt t s d → d.liu.quietDeadline = some a → isAfter a d.clock = false →
    acceptedCopy d = some (mark, body) → frameStation body = ownNumber d → d.liu.ownDrive ≠ .sent →
    let d1 := lineIdled d
    let clashed : Rqs := { d1.rqs with flags := d1.rqs.flags ||| flagBit .clash }
    ((d.cfl.station = .listening ∨ d.cfl.station = .running) →
      exec (.quietDeadlineExpires t) s = .next (settled s { d1 with
        cfl := { d.cfl with station := .silent, listeningDeadline := none },
        liu := { d1.liu with
          transmitter := .empty, waitOrigin := none, slotEnd := none, frameInHand := none, collisions := 0,
          collided := none, driven := none,
          ownDrive := if d.liu.ownDrive = .driving then .cut else d.liu.ownDrive },
        fx := { d.fx with queue := [], presenceDeadline := none },
        htk := { d.htk with
          tracks := d.htk.tracks.map fun tr =>
            if d.fx.queue.any (fun e => claimsTrack tr.id e && !e.withdrawn) then
              { tr with flags := { tr.flags with noClaim := true } }
            else tr },
        rqs := clashed }))
    ∧ (d.cfl.station = .silent →
      exec (.quietDeadlineExpires t) s = .next (settled s { d1 with rqs := clashed }))

/-- R61, R62, R65, R66, R71 to R73, R92, R93, R96, R106, R135 to R137, R148: an accepted frame is handed on, after what
the idle instant does to the line. A PRESENCE from another station overwrites that station's entry with its fields, the
frame mark as last presence time, deadlines 2 and 8 presence periods after it and state PRESENT, and latches PEER_NEW
when the entry was ABSENT or LOST. A SIGHTING is disregarded in the approach role, for another track, from a peer ABSENT
or LOST or without that mark, or when a track holds it; else one that fits no track makes a ONE_MARK track in PREDICTED
while its plan horizon is ahead, or counts as too far, and one that fits one track alone joins its list: in ARMED no more,
in PREDICTED it is predicted again. A CLAIM of an adjacent track, its expiry ahead, enters the neighbour claim list,
replaces its key, or contends for a full list; else its key leaves. A RELEASE removes its key; these two while no own
track is PLANNED, ARMED or EXPOSING. The own CLAIM heard back makes its claim status SENT, the claim announced and the
reference moved to its burst centre; any other own frame does nothing. Nothing else changes. It rests on the model's
choices of log 1, log 3, log 8, log 19, log 24 and log 27. -/
def Obligations.PresenceRefreshesPeer : Prop :=
  ∀ (t : Time) (s : State) (d : Device) (a mark : Time) (body : List Byte),
    FoundAt t s d → d.liu.quietDeadline = some a → isAfter a d.clock = false → acceptedCopy d = some (mark, body) →
    let d1 := lineIdled d
    let outcome : Device → Prop := fun d2 => exec (.quietDeadlineExpires t) s = .next (settled s d2)
    let tracked : List Track → Device := fun l => { d1 with htk := { d.htk with tracks := l } }
    (∀ p : Fin 31, frameStation body = p.val + 1 → p.val + 1 ≠ ownNumber d →
      (∀ f : PresenceFrame, readFrame body = some (.presence f) →
        let was := (d.ptb.peers.get p).state
        outcome { d1 with
          rqs := { d1.rqs with
            flags := if was = .absent ∨ was = .lost then d1.rqs.flags ||| flagBit .peerNew else d1.rqs.flags },
          ptb := { d.ptb with
            peers := d.ptb.peers.set p.val
              { state := .present, role := some f.role, period := some f.period, lastPresence := some mark,
                staleDeadline := some (mark + BitVec.ofNat 32 (2 * f.period * 1000)),
                lostDeadline := some (mark + BitVec.ofNat 32 (8 * f.period * 1000)), marks := f.marks,
                flashLockout := f.flashLockout, cameraLockout := f.cameraLockout } p.isLt } })
      ∧ (∀ (f : SightingFrame) (im : Image), readFrame body = some (.sighting f) → d.cfl.image = some im →
        let e := d.ptb.peers.get p
        let held := e.marks.find? fun m => m.pair == f.pair && m.track == f.track
        (d.cfl.role ≠ some .camera ∨ f.track ≠ im.ownTrack ∨ e.state = .absent ∨ e.state = .lost ∨ held = none →
          outcome d1)
        ∧ (∀ m : Mark, d.cfl.role = some .camera → f.track = im.ownTrack → e.state = .present ∨ e.state = .stale →
            held = some m →
          let stale := decide (e.state = .stale)
          let sg : Sighting :=
            { station := p.val + 1, pair := f.pair, d := m.d, side := m.side, seq := f.seq,
              t2 := mark - BitVec.ofNat 32 f.age, v := f.v, band := f.band, partialHeight := f.partialHeight,
              forced := f.forced, staleSource := stale }
          let known := ∃ tr ∈ d.htk.tracks, ∃ x ∈ tr.sightings, x.station = p.val + 1 ∧ x.pair = f.pair ∧ x.seq = f.seq
          let one := predictOneMark sg
          let pr : Prediction := { one with tol := if stale then 2 * one.tol else one.tol }
          let horizon : Prediction → Time := fun pr => pr.tPred - BitVec.ofNat 32 (im.planHorizon * 1000)
          (known → outcome d1)
          ∧ (¬ known → (∀ tr ∈ d.htk.tracks, sightingFit sg tr = none) →
              (outOfReach im d.clock pr = true →
                outcome { d1 with htk := { d.htk with tooFar := min 65535 (d.htk.tooFar + 1) } })
              ∧ (outOfReach im d.clock pr = false → d.htk.tracks.length < 16 → isAfter (horizon pr) d.clock = true →
                let id := freeId (d.htk.tracks.map (·.id)) 16 d.htk.nextId
                outcome { d1 with htk := { d.htk with
                  nextId := id + 1#8, nextCreated := d.htk.nextCreated + 1,
                  tracks := (insertTrack { newcomer m.side [sg] none pr stale with
                      id := id, created := d.htk.nextCreated, missDeadline := some (missTime im pr) }
                    d.htk.tracks).map fun x =>
                      if x.id == id then { x with planHorizon := some (horizon pr) } else x } }))
          ∧ (∀ (tr : Track) (k : Nat), ¬ known → findTrack d tr.id = some tr →
              d.htk.tracks.filterMap (sightingFit sg) = [(tr, k)] →
              (tr.state = .armed →
                outcome (tracked (d.htk.tracks.map fun x =>
                  if x.id == tr.id then
                    { x with
                      sightings := joinSightings sg x.sightings,
                      flags := { x.flags with forced := x.flags.forced || sg.forced } }
                  else x)))
              ∧ (∀ again wasStale, tr.state = .predicted →
                  predict (joinSightings sg tr.sightings) tr.verify = some (again, wasStale) →
                  outOfReach im d.clock again = false → isAfter (horizon again) d.clock = true →
                outcome (tracked ((insertTrack { tr with
                    sightings := joinSightings sg tr.sightings, pred := again,
                    missDeadline := some (missTime im again),
                    flags := { tr.flags with
                      forced := tr.flags.forced || sg.forced, staleSource := tr.flags.staleSource || wasStale } }
                  (d.htk.tracks.filter fun x => x.id != tr.id)).map fun x =>
                    if x.id == tr.id then { x with planHorizon := some (horizon again) } else x))))))
      ∧ (d.cfl.role = some .camera →
          (∀ tr ∈ d.htk.tracks, tr.state ≠ .planned ∧ tr.state ≠ .armed ∧ tr.state ≠ .exposing) →
        let claims : List NeighbourClaim → Device := fun l => { d1 with crs := { d.crs with claims := l } }
        (∀ (f : ClaimFrame) (im : Image), readFrame body = some (.claim f) → d.cfl.image = some im →
          let key : ClaimKey := { station := p.val + 1, trackId := f.trackId }
          let centre := mark + BitVec.ofNat 32 f.lead
          let expiry := centre + BitVec.ofInt 32
            ((2 * ((f.n - 1 : Nat) : Int) - ((f.n : Int) - 1)) * f.s / 2 - (f.e / 2 : Nat) + f.e + im.guardTime)
          let entry : NeighbourClaim :=
            { key := key, track := f.track, flash := f.flash, centre := centre, n := f.n, s := f.s, e := f.e,
              tol := f.tol, flashed := f.flashed, join := d.crs.nextJoin, expiry := expiry }
          let taken := im.adjacency.getLsbD (f.track - 1) = true ∧ isAfter expiry d.clock = true
            ∧ timeDiff expiry d.clock < 10000000
          (¬ taken → outcome (claims (d.crs.claims.filter fun c => c.key != key)))
          ∧ (∀ old, taken → d.crs.claims.find? (fun c => c.key == key) = some old →
              outcome (claims (d.crs.claims.map fun c => if c.key == key then { entry with join := old.join } else c)))
          ∧ (taken → (∀ c ∈ d.crs.claims, c.key ≠ key) → d.crs.claims.length < 8 →
              outcome { d1 with crs := { claims := d.crs.claims ++ [entry], nextJoin := d.crs.nextJoin + 1 } })
          ∧ (∀ c ∈ d.crs.claims, taken → (∀ x ∈ d.crs.claims, x.key ≠ key) → 8 ≤ d.crs.claims.length →
              (∀ x ∈ d.crs.claims, x = c ∨ isAfter x.expiry c.expiry = true
                ∨ (c.expiry = x.expiry ∧ c.join < x.join)) →
              (isAfter expiry c.expiry = true →
                outcome { d1 with crs :=
                  { claims := (d.crs.claims.filter fun x => x.key != c.key) ++ [entry],
                    nextJoin := d.crs.nextJoin + 1 } })
              ∧ (isAfter expiry c.expiry = false → outcome d1)))
        ∧ (∀ id : Byte, readFrame body = some (.release id) →
            outcome (claims (d.crs.claims.filter fun c => c.key != { station := p.val + 1, trackId := id })))))
    ∧ (frameStation body = ownNumber d → d.liu.ownDrive = .sent →
        (∀ f : ClaimFrame, readFrame body = some (.claim f) →
          let centre := mark + BitVec.ofNat 32 f.lead
          outcome (tracked (d.htk.tracks.map fun x =>
            if x.id == f.trackId then
              { x with
                claimStatus := .sent, announced := some centre,
                reference := x.reference.map fun r => { r with centre := centre } }
            else x)))
        ∧ ((∀ f, readFrame body ≠ some (.claim f)) → outcome d1))

/-- R26, R37, R38, R200: a frame sent is received. The line bits of a body that agrees with its kind, followed by its
CRC, are read as that body; and the symbols of the whole frame, start delimiter first, heard bit time by bit time on a
pair whose first transition is not before them, make a copy that is judged GOOD with that body and with the end of its
delimiter as frame mark. It rests on the model's choices of log 6 and log 7. -/
def Obligations.LineFrameRoundTrip : Prop :=
  ∀ body : List Byte, bodyAgrees body = true →
    copyBody ((body ++ bytesOf 2 (lineCrc body).toNat).flatMap lineBits) = some body
    ∧ ∀ (x : PairState) (first mark : Time), isBefore first (mark - 8#32) = false →
        let symbols : List LineSymbol := (frameCodes body (lineCrc body)).zipIdx.map fun c =>
          { firstHalf := (codeLevels c.1).1, secondHalf := (codeLevels c.1).2, ends := mark + BitVec.ofNat 32 c.2 - 7#32 }
        judgeCopy .nothing { x with
            copy := symbols.foldl hearSymbol { Copy.fresh false with firstSeen := some first } }
          = (.good, some (mark, body))

/-- R46 to R48, R60, R61, R200: the fields of a PRESENCE with marks in ascending pair index, a SIGHTING, a CLAIM and a
RELEASE, each in its range, are read back by the receiver as the sender wrote them, whatever the bits are that the
layout leaves open; the body agrees with its kind and carries the sender's number. It rests on the model's choices of
log 14 and log 27. -/
def Obligations.FrameFieldsRoundTrip : Prop :=
  ∀ n : Nat, 1 ≤ n → n ≤ 31 →
    (∀ (role : Role) (period : Nat) (flash camera : Bool) (marks : List Mark),
      50 ≤ period → period ≤ 1000 → (marks.map (·.pair)).Pairwise (· < ·) →
      (∀ m ∈ marks, 1 ≤ m.track ∧ m.track ≤ 4 ∧ 500 ≤ m.d ∧ m.d ≤ 1000000 ∧ 1000 ≤ m.b ∧ m.b ≤ 4000) →
      bodyAgrees (presenceBody n role period flash camera marks) = true
      ∧ frameStation (presenceBody n role period flash camera marks) = n
      ∧ readFrame (presenceBody n role period flash camera marks) = some (.presence
          { role := role, period := period, flashLockout := flash, cameraLockout := camera, marks := marks }))
    ∧
    (∀ (c : SightingContents) (age : Nat),
      1 ≤ c.track → c.track ≤ 4 → 500 ≤ c.v → c.v ≤ 120000 → age ≤ 65535 →
      (∀ low high, c.band = some (low, high) → 1 ≤ low ∧ low ≤ high ∧ high ≤ 8000) →
      bodyAgrees (sightingBody n c age) = true ∧ frameStation (sightingBody n c age) = n
      ∧ readFrame (sightingBody n c age) = some (.sighting
          { pair := c.pair, track := c.track, seq := c.seq, age := age, v := c.v, band := c.band, clamped := c.clamped,
            partialHeight := c.partialHeight, forced := c.forced }))
    ∧ (∀ (c : ClaimContents) (lead : Nat),
      1 ≤ c.track → c.track ≤ 4 → 1 ≤ c.n → c.n ≤ 4 → c.s % 2 = 0 → 2 ≤ c.s → c.s ≤ 4000000 → 2 ≤ c.e → c.e ≤ 2000 →
      50 ≤ c.tol → c.tol ≤ 187900 → lead ≤ 4000000 → ascendingBelow c.n c.flashed = true →
      bodyAgrees (claimBody n c lead) = true ∧ frameStation (claimBody n c lead) = n
      ∧ readFrame (claimBody n c lead) = some (.claim
          { trackId := c.trackId, track := c.track, flash := !c.flashed.isEmpty, n := c.n, flashed := c.flashed,
            lead := lead, s := c.s, e := c.e, tol := c.tol }))
    ∧ (∀ id : Byte,
      bodyAgrees (releaseBody n id) = true ∧ frameStation (releaseBody n id) = n
      ∧ readFrame (releaseBody n id) = some (.release id))

/-! ### The outbound queue and the transmitter -/

/-- R49, R54: a newcomer that finds 8 entries. With no entry of a higher class number off the line it is dropped and
nothing changes; otherwise the entry of the highest such class, latest in it, is removed, and the newcomer joins. -/
def Obligations.FullQueueEvicts : Prop :=
  ∀ (d : Device) (out : Outbound),
    d.fx.queue.length = 8 →
    d.fx.queue.Pairwise (fun x y => classOf x.out < classOf y.out
      ∨ (classOf x.out = classOf y.out ∧ x.order < y.order)) →
    let candidate := fun e : QueueEntry => e ∈ d.fx.queue ∧ e.onLine = false ∧ classOf out < classOf e.out
    ((∀ e, ¬ candidate e) → joinQueue out d = (d, false))
    ∧ ((∃ e, candidate e) → ∃ v, candidate v
        ∧ (∀ e, candidate e → classOf e.out < classOf v.out ∨ (classOf e.out = classOf v.out ∧ e.order ≤ v.order))
        ∧ (joinQueue out d).2 = true
        ∧ (joinQueue out d).1.fx = { d.fx with
            nextOrder := d.fx.nextOrder + 1,
            queue := joinByClass
              { order := d.fx.nextOrder, out := out, onLine := false, revision := none, withdrawn := false }
              (d.fx.queue.filter fun e => e.order != v.order) })

/-- R47, R48, R56: at a slot end a SIGHTING is supplied with its age, or dropped without report when the age passes
65,535; a CLAIM is supplied with its lead, dropped EXPIRED when the lead is below 0 and OUT_OF_RANGE when it is above
4,000,000. -/
def Obligations.TimeFieldsFixed : Prop :=
  ∀ (d : Device) (mark : Time),
    (∀ (c : SightingContents) (age : Nat), age < 2 ^ 32 → mark = c.t2 + BitVec.ofNat 32 age →
      (age ≤ 65535 → fixFrame d mark (.sighting c) = .supplied (sightingBody (ownNumber d) c age))
      ∧ (65535 < age → fixFrame d mark (.sighting c) = .dropped none))
    ∧ (∀ c : ClaimContents,
      (0 ≤ timeDiff c.centre mark → timeDiff c.centre mark ≤ 4000000 → ∃ lead : Nat, (lead : Int) = timeDiff c.centre mark
        ∧ fixFrame d mark (.claim c) = .supplied (claimBody (ownNumber d) c lead))
      ∧ (timeDiff c.centre mark < 0 → fixFrame d mark (.claim c) = .dropped (some .expired))
      ∧ (4000000 < timeDiff c.centre mark → fixFrame d mark (.claim c) = .dropped (some .outOfRange)))

/-- R26, R30, R31: a slot end reached in DEFER starts the head's frame when Frame Exchange supplies it for the own frame
mark, 8 µs ahead: SEND, both pairs driven to the end of the CRC, both readbacks MATCH, the entry on the line, and the
collision count kept only for the collided frame. It rests on the model's choices of log 1, log 3, log 9 and log 12. -/
def Obligations.SlotEndStartsFrame : Prop :=
  ∀ (t : Time) (s : State) (d : Device) (a : Time) (e : QueueEntry) (rest : List QueueEntry) (body : List Byte),
    FoundAt t s d → d.cfl.station = .running → d.liu.transmitter = .defer → d.liu.slotEnd = some a →
    isAfter a d.clock = false → d.fx.queue = e :: rest → (∀ x ∈ rest, x.order ≠ e.order) →
    fixFrame d (d.clock + 8#32) e.out = .supplied body →
    exec (.slotEnd t) s = .next (settled s { d with
      fx := { d.fx with queue := { e with onLine := true } :: rest },
      liu := { d.liu with
        busy := true, quietDeadline := some (d.clock + 10#32),
        transmitter := .send, waitOrigin := none, slotEnd := none, frameInHand := some e.order,
        collisions := if d.liu.collided = some e.order then d.liu.collisions else 0,
        collided := if d.liu.collided = some e.order then d.liu.collided else none,
        driven := some
          { mark := d.clock + 8#32, body := body, crc := lineCrc body,
            ends := d.clock + BitVec.ofNat 32 (8 + 8 * body.length + 16) },
        ownDrive := .driving,
        pairA := { d.liu.pairA with
          readbackMatch := true, copy := Copy.fresh (d.liu.pairA.condition == .jabbering) },
        pairB := { d.liu.pairB with
          readbackMatch := true, copy := Copy.fresh (d.liu.pairB.condition == .jabbering) } } })

/-- R32, R33, R34, R57: a mismatch on one pair of a frame in SEND marks that pair and transmission goes on. A mismatch
on the second pair is a collision: both drivers stop, the line is BUSY, and the count of the frame rises; below 8 an
entry without pending revision that is not a withdrawn CLAIM and has not expired stays in its place, off the line. The
eighth latches LINE_CONTENTION, clears the count and removes a frame that is no CLAIM. It rests on the model's choices
of log 1, log 3 and log 9. -/
def Obligations.MismatchesCollide : Prop :=
  ∀ (t : Time) (p : LinePair) (s : State) (d : Device) (e : QueueEntry) (rest : List QueueEntry),
    FoundAt t s d → d.liu.transmitter = .send → d.liu.frameInHand = some e.order → d.fx.queue = e :: rest →
    (∀ x ∈ rest, x.order ≠ e.order) → (linePair d p).readbackMatch = true →
    let marked := setLinePair p { linePair d p with readbackMatch := false } d
    let cut : Liu := { marked.liu with
      busy := true, driven := none, ownDrive := .cut, frameInHand := none, transmitter := .waitIdle, waitOrigin := none,
      slotEnd := none }
    ((linePair d (otherPair p)).readbackMatch = true →
      exec (.readbackMismatch t p) s = .next (settled s marked))
    ∧ ((linePair d (otherPair p)).readbackMatch = false →
        (d.liu.collisions < 7 → e.revision = none → e.withdrawn = false → due (expiryOf e.out) d.clock = false →
          exec (.readbackMismatch t p) s = .next (settled s { d with
            fx := { d.fx with queue := { e with onLine := false } :: rest },
            liu := { cut with collisions := d.liu.collisions + 1, collided := some e.order } }))
        ∧ (7 ≤ d.liu.collisions → (∀ c, e.out ≠ .claim c) →
          exec (.readbackMismatch t p) s = .next (settled s { d with
            fx := { d.fx with queue := rest },
            liu := { cut with
              collisions := 0, collided := none, transmitter := if rest.isEmpty then .empty else .waitIdle },
            rqs := { d.rqs with flags := d.rqs.flags ||| flagBit .lineContention } })))

/-- R35, R57: a frame is sent at the end of its CRC. The drivers stop, the count is cleared, the transmitter is EMPTY or
waits for the next idle instant; the entry leaves the queue, but a CLAIM not withdrawn that holds a pending revision
takes the revised contents, marked sent before, and stays. It rests on the model's choices of log 1, log 3 and log 20.
-/
def Obligations.FrameSentLeavesQueue : Prop :=
  ∀ (t : Time) (s : State) (d : Device) (f : DrivenFrame) (e : QueueEntry) (rest : List QueueEntry),
    FoundAt t s d → d.liu.transmitter = .send → d.liu.driven = some f → d.liu.frameInHand = some e.order →
    isAfter f.ends d.clock = false → d.fx.queue = e :: rest → (∀ x ∈ rest, x.order ≠ e.order) →
    let sent : Liu := { d.liu with
      driven := none, ownDrive := .sent, frameInHand := none, collisions := 0, collided := none, waitOrigin := none,
      slotEnd := none }
    (((∀ c, e.out ≠ .claim c) ∨ e.withdrawn = true ∨ e.revision = none) →
      exec (.frameSent t) s = .next (settled s { d with
        fx := { d.fx with queue := rest },
        liu := { sent with transmitter := if rest.isEmpty then .empty else .waitIdle } }))
    ∧ (∀ c r, e.out = .claim c → e.withdrawn = false → e.revision = some r →
      exec (.frameSent t) s = .next (settled s { d with
        fx := { d.fx with queue :=
          { e with out := .claim { r with sentBefore := true }, revision := none, onLine := false } :: rest },
        liu := { sent with transmitter := .waitIdle } }))

/-- R55, R106: the expiry deadline of an entry not on the line removes it, a SIGHTING without report, a CLAIM whose
track is no longer held with no further effect; of an entry on the line, or before its deadline, nothing changes. It
rests on the model's choices of log 1 and log 3. -/
def Obligations.EntryExpires : Prop :=
  ∀ (t : Time) (s : State) (d : Device) (e : QueueEntry) (order : Nat),
    FoundAt t s d → findEntry d order = some e →
    ((e.onLine = true ∨ due (expiryOf e.out) d.clock = false) →
      exec (.outboundEntryExpires t order) s = .next (settled s d))
    ∧ (e.onLine = false → due (expiryOf e.out) d.clock = true →
        (∀ c, e.out = .claim c → findTrack d c.trackId = none) →
        ∃ liu : Liu,
          exec (.outboundEntryExpires t order) s = .next (settled s { d with
            fx := { d.fx with queue := d.fx.queue.filter fun x => x.order != order }, liu := liu })
          ∧ liu.busy = d.liu.busy ∧ liu.driven = d.liu.driven ∧ liu.preferred = d.liu.preferred
          ∧ liu.pairA = d.liu.pairA ∧ liu.pairB = d.liu.pairB
          ∧ ((d.fx.queue.filter fun x => x.order != order) = [] → d.liu.transmitter ≠ .send →
              liu.transmitter = .empty ∧ (d.liu.transmitter ≠ .empty → liu.waitOrigin = none ∧ liu.slotEnd = none)))

/-- R58, R51, R34: the presence deadline advances by one presence period from its previous value. With a PRESENCE on the
line nothing else changes; one off the line is replaced in its place, and only a collision count it has is cleared; else
a PRESENCE joins at the end of a queue that has a place, or is dropped by a full one. It rests on the model's choices of
log 1, log 3 and log 30. -/
def Obligations.PresenceSchedule : Prop :=
  ∀ (t : Time) (s : State) (d : Device) (a : Time) (im : Image),
    FoundAt t s d → d.cfl.station = .running → d.cfl.image = some im → d.fx.presenceDeadline = some a →
    isAfter a d.clock = false →
    let advanced := some (a + BitVec.ofNat 32 (im.presencePeriod * 1000))
    (∀ e, d.fx.queue.find? (fun x => x.out == .presence) = some e →
      let superseded := e.onLine = false ∧ d.liu.collided = some e.order
      (¬ superseded → exec (.presenceDeadlineExpires t) s = .next (settled s { d with
        fx := { d.fx with presenceDeadline := advanced } }))
      ∧ (superseded → exec (.presenceDeadlineExpires t) s = .next (settled s { d with
          fx := { d.fx with presenceDeadline := advanced },
          liu := { d.liu with collisions := 0, collided := none } })))
    ∧ ((∀ e ∈ d.fx.queue, e.out ≠ .presence) → d.fx.queue.length < 8 →
      ∃ liu : Liu,
        exec (.presenceDeadlineExpires t) s = .next (settled s { d with
          fx := {
            presenceDeadline := advanced, nextOrder := d.fx.nextOrder + 1,
            queue := d.fx.queue ++
              [{ order := d.fx.nextOrder, out := .presence, onLine := false, revision := none, withdrawn := false }] },
          liu := liu })
        ∧ (d.fx.queue = [] → d.liu.transmitter = .empty →
            liu.transmitter = if d.liu.busy then .waitIdle else .defer))
    ∧ ((∀ e ∈ d.fx.queue, e.out ≠ .presence) → 8 ≤ d.fx.queue.length →
      exec (.presenceDeadlineExpires t) s = .next (settled s { d with
        fx := { d.fx with presenceDeadline := advanced } }))

/-- R67, R68: the stale deadline of a PRESENT entry makes it STALE, the lost deadline of a STALE entry makes it LOST and
latches PEER_LOST; every other field of the entry and every other entry is kept. It rests on the model's choices of log
1 and log 3. -/
def Obligations.PeersAge : Prop :=
  ∀ (t : Time) (s : State) (d : Device) (p : Fin 31) (a : Time),
    FoundAt t s d → p.val + 1 ≠ ownNumber d → isAfter a d.clock = false →
    let e := d.ptb.peers.get p
    (e.state = .present → e.staleDeadline = some a →
      exec (.staleDeadlineExpires t (p.val + 1)) s = .next (settled s { d with
        ptb := { d.ptb with peers := d.ptb.peers.set p.val { e with state := .stale, staleDeadline := none } p.isLt } }))
    ∧ (e.state = .stale → e.lostDeadline = some a →
      exec (.lostDeadlineExpires t (p.val + 1)) s = .next (settled s { d with
        ptb := { d.ptb with peers := d.ptb.peers.set p.val { e with state := .lost, lostDeadline := none } p.isLt },
        rqs := { d.rqs with flags := d.rqs.flags ||| flagBit .peerLost } }))

/-! ### Head tracks, plans and claims -/

/-- R85, R86, R87: the three predictions, for inputs in their ranges. Each rounds to nearest, halves away from zero;
ONE_MARK takes the sighting's own speed; TWO_MARK carries the change of speed on to the gantry, held first within half
and twice the near speed and then within 500 to 120,000; VERIFIED and VERIFY_ONLY take the verify entry's speed and
differ only in whether sightings are held. A travel above 8,000,000 puts a prediction out of reach; else the tolerances
have the bounds the rules give. -/
def Obligations.Predictions : Prop :=
  (∀ sg : Sighting, 500 ≤ sg.v → sg.v ≤ 120000 → 500 ≤ sg.d → sg.d ≤ 1000000 →
    ∃ travel : Nat,
      predictOneMark sg = { vg := sg.v, tPred := sg.t2 + BitVec.ofNat 32 travel, tol := 200 + travel * 12 / 1024,
                            basis := .oneMark, travel := travel }
      ∧ 2 * travel * sg.v ≤ 2 * (sg.d * 1000000) + sg.v ∧ 2 * (sg.d * 1000000) + sg.v < 2 * (travel + 1) * sg.v
      ∧ 4167 ≤ travel ∧ travel ≤ 2000000000 ∧ (travel ≤ 8000000 → 200 + travel * 12 / 1024 ≤ 93950)
      ∧ (8000000 < travel → ∀ im now, outOfReach im now (predictOneMark sg) = true))
  ∧ (∀ far near : Sighting, 500 ≤ far.v → far.v ≤ 120000 → 500 ≤ near.v → near.v ≤ 120000 → 500 ≤ near.d →
      near.d + 10000 ≤ far.d → far.d ≤ 1000000 →
    let change : Int := ((near.v : Int) - far.v) * near.d
    let apart : Int := (far.d : Int) - near.d
    let least : Int := ((near.v + 1) / 2 : Nat)
    ∃ (delta : Int) (vg mean travel : Nat),
      predictTwoMark far near = { vg := vg, tPred := near.t2 + BitVec.ofNat 32 travel, tol := 100 + travel * 4 / 1024,
                                  basis := .twoMark, travel := travel }
      ∧ (0 ≤ change → 2 * delta * apart ≤ 2 * change + apart ∧ 2 * change + apart < 2 * (delta + 1) * apart)
      ∧ (change < 0 → 2 * -delta * apart ≤ 2 * -change + apart ∧ 2 * -change + apart < 2 * (-delta + 1) * apart)
      ∧ (vg : Int) = max 500 (min 120000 (max least (min (2 * (near.v : Int)) (near.v + delta))))
      ∧ (near.v + 1) / 2 ≤ vg ∧ vg ≤ 2 * near.v
      ∧ 2 * mean ≤ near.v + vg + 1 ∧ near.v + vg ≤ 2 * mean
      ∧ 2 * travel * mean ≤ 2 * (near.d * 1000000) + mean ∧ 2 * (near.d * 1000000) + mean < 2 * (travel + 1) * mean)
  ∧ (∀ (b : Basis) (e : VerifyEntry), 500 ≤ e.v → e.v ≤ 120000 → 500 ≤ e.d → e.d ≤ 20000 →
    ∃ travel : Nat,
      predictVerify b e = { vg := e.v, tPred := e.t2 + BitVec.ofNat 32 travel, tol := 50 + travel * 2 / 1024,
                            basis := b, travel := travel }
      ∧ 2 * travel * e.v ≤ 2 * (e.d * 1000000) + e.v ∧ 2 * (e.d * 1000000) + e.v < 2 * (travel + 1) * e.v
      ∧ (travel ≤ 8000000 → 50 + travel * 2 / 1024 ≤ 15675)
      ∧ (8000000 < travel → ∀ im now, outOfReach im now (predictVerify b e) = true))
  ∧ (∀ (e : VerifyEntry) (sightings : List Sighting),
      predict sightings (some e) = some (predictVerify (if sightings = [] then .verifyOnly else .verified) e, false))

/-- R113 to R119, R121 to R123: a plan formed under a loaded configuration. The window is STRIP exactly with a band and
strip enable, its top placed by the mid height and held on the sensor; R is the readout time; N is the uncapped size or
N_max; S is even and the least such that is neither below S_z nor below R; E lies in 2 to E_max; the offsets are (2k −
(N − 1)) × S / 2, the pulses stand at their times and the arm point the arm lead before the first. A frame is flashed
exactly when, of the flashed frames of smaller offset, earlier on a tie, fewer than P_max are there and each lies at
least F_s from it, and so does the previous flash; none is without flash. The three plan flags follow. -/
def Obligations.PlanFormed : Prop :=
  ∀ (role : Role) (page : List Byte) (available : Bool) (previous : Option Time) (pred : Prediction)
    (band : Option (Nat × Nat)),
    500 ≤ pred.vg → pred.vg ≤ 120000 → 50 ≤ pred.tol → pred.tol ≤ 187900 →
    let im := imageOf role page
    let p := (formPlan im available previous pred band).1
    let f := (formPlan im available previous pred band).2
    let uncapped := max 1 ((2 * pred.tol + p.sz - 1) / p.sz)
    ((band.isSome = true ∧ im.stripEnable = true) →
      p.format = .strip ∧ p.rows = 64 * 2 ^ im.stripBaseCode + 16 * im.stripAdd ∧ p.rows ≤ 752)
    ∧ ((band = none ∨ im.stripEnable = false) → p.format = .full ∧ p.rows = 2048 ∧ p.top = 0)
    ∧ p.top + p.rows ≤ 2048
    ∧ (∀ low high, band = some (low, high) → im.stripEnable = true →
        let above : Int := ((im.hRef : Int) - ((low + high) / 2 : Nat)) * im.rowsPerM
        ∃ shift : Int, (0 ≤ above → 2000 * shift ≤ 2 * above + 1000 ∧ 2 * above + 1000 < 2000 * (shift + 1))
          ∧ (above < 0 → 2000 * -shift ≤ 2 * -above + 1000 ∧ 2 * -above + 1000 < 2000 * (-shift + 1))
          ∧ (p.top : Int) = max 0 (min ((2048 : Int) - p.rows) (im.rowRef + shift - (p.rows / 2 : Nat))))
    ∧ p.r = (p.rows * im.rowTime + 999) / 1000 + im.recovery ∧ 114 ≤ p.r ∧ p.r ≤ 45960
    ∧ p.sz = im.zone * 1000000 / pred.vg ∧ 1250 ≤ p.sz ∧ p.sz ≤ 4000000
    ∧ p.n = min uncapped im.nMax ∧ 1 ≤ p.n ∧ p.n ≤ 4
    ∧ p.s % 2 = 0 ∧ p.sz ≤ p.s ∧ p.r ≤ p.s ∧ p.s ≤ max p.sz p.r + 1
    ∧ 2 ≤ p.e ∧ p.e ≤ im.eMax ∧ (im.blurLimit * 1000000 / pred.vg ≤ im.eMax → 2 ≤ im.blurLimit * 1000000 / pred.vg →
        p.e = im.blurLimit * 1000000 / pred.vg)
    ∧ p.sigma = 0 ∧ p.coLit = none ∧ p.tPred = pred.tPred
    ∧ p.offsets.length = p.n ∧ p.pulses.length = p.n ∧ p.flashTimes.length = p.n ∧ p.gains.length = p.n
    ∧ (∀ k, k < p.n →
        2 * p.offsets.getD k 0 = (2 * (k : Int) - (p.n - 1)) * p.s
        ∧ p.flashTimes.getD k 0#32 = p.tPred + BitVec.ofInt 32 (p.offsets.getD k 0 - (p.e / 2 : Nat))
        ∧ p.pulses.getD k 0#32 =
            p.tPred + BitVec.ofInt 32 (p.offsets.getD k 0 - (p.e / 2 : Nat) - im.triggerLatency)
        ∧ p.gains.getD k 0 = if k ∈ p.flashed then 0 else im.gainBoost)
    ∧ p.armPoint = p.pulses.getD 0 0#32 - BitVec.ofNat 32 im.armLead
    ∧ p.flashed.length ≤ im.pMax ∧ p.flashed.Pairwise (· < ·) ∧ (∀ k ∈ p.flashed, k < p.n)
    ∧ (∀ k, k < p.n → available = true →
        let earlier := p.flashed.filter fun j =>
          decide ((p.offsets.getD j 0).natAbs < (p.offsets.getD k 0).natAbs
            ∨ ((p.offsets.getD j 0).natAbs = (p.offsets.getD k 0).natAbs ∧ j < k))
        (k ∈ p.flashed ↔ earlier.length < im.pMax
          ∧ (∀ j ∈ earlier,
              im.flashSpacing ≤ (timeDiff (p.flashTimes.getD k 0#32) (p.flashTimes.getD j 0#32)).natAbs)
          ∧ (∀ t, previous = some t → im.flashSpacing ≤ (timeDiff (p.flashTimes.getD k 0#32) t).natAbs)))
    ∧ (available = false → p.flashed = []) ∧ f.flashless = !available
    ∧ f.coveragePartial = decide (im.nMax < uncapped ∨ p.sz < p.r)
    ∧ f.blurLimit = decide (im.blurLimit * 1000000 / pred.vg < 2)

/-- R98, R99, R112, R124, R126, R141, R146: the plan-horizon deadline of a PREDICTED track without a claim. The track is
planned from its prediction and resolved against the neighbour claims. With the arm point ahead it is PLANNED with that
plan and the arm-point deadline; outside RUNNING its claim is refused and NO_CLAIM set, in RUNNING the claim joins a queue
that has a place and holds no CLAIM for the id, and the status is QUEUED. With the arm point passed and less than 1,800 µs
to the first pulse it closes MISSED(LATE). In every case no other track changes or moves, and the track itself is PLANNED
or ARMED with a plan for its prediction, or has closed MISSED with a record. Curtains, peers, neighbour claims and the
station state do not change. It rests on the model's choices of log 1, log 3 and log 23. -/
def Obligations.HorizonPlansTrack : Prop :=
  ∀ (t : Time) (id : Byte) (s : State) (d : Device) (tr : Track) (a : Time) (im : Image),
    FoundAt t s d → d.cfl.image = some im → findTrack d id = some tr → tr.state = .predicted →
    tr.planHorizon = some a → isAfter a d.clock = false →
    let r := formPlan im (d.fdu.state == .idle) (previousFlash im d id) tr.pred (bandOf tr)
    let res := resolvePlan im (ownNumber d) tr.pred.tol d.crs.claims r.1
    let planned : Track → Track := fun x => { x with
      state := .planned, planHorizon := none, plan := some res.plan,
      flags := { x.flags with
        coveragePartial := r.2.coveragePartial, blurLimit := r.2.blurLimit, flashless := res.flashless,
        coLit := res.coLit, glareRisk := res.glareRisk } }
    let offered : ClaimContents :=
      { trackId := id, track := im.ownTrack, centre := res.plan.tPred + BitVec.ofInt 32 res.plan.sigma, n := res.plan.n,
        s := res.plan.s, e := res.plan.e, tol := tr.pred.tol, flashed := res.plan.flashed, sentBefore := false }
    let ahead := isAfter res.plan.armPoint d.clock
    (ahead = true → tr.claimStatus = .none → d.cfl.station ≠ .running →
      exec (.planHorizonDeadlineExpires t id) s = .next (settled s { d with
        htk := { d.htk with tracks := d.htk.tracks.map fun x =>
          if x.id == id then
            { planned x with
              armPoint := some res.plan.armPoint, flags := { (planned x).flags with noClaim := true } }
          else x } }))
    ∧ (ahead = true → tr.claimStatus = .none → d.cfl.station = .running → d.fx.queue.length < 8 →
        (∀ e ∈ d.fx.queue, ∀ c, e.out = .claim c → c.trackId ≠ id) → (∀ x ∈ d.htk.tracks, x.id = id → x = tr) →
      ∃ liu : Liu,
        exec (.planHorizonDeadlineExpires t id) s = .next (settled s { d with
          liu := liu,
          fx := { d.fx with
            nextOrder := d.fx.nextOrder + 1,
            queue := joinByClass
              { order := d.fx.nextOrder, out := .claim offered, onLine := false, revision := none, withdrawn := false }
              d.fx.queue },
          htk := { d.htk with tracks := d.htk.tracks.map fun x =>
            if x.id == id then
              { planned x with
                armPoint := some res.plan.armPoint, claimStatus := .queued,
                reference := some
                  { centre := offered.centre, n := res.plan.n, flash := !res.plan.flashed.isEmpty } }
            else x } })
        ∧ liu.busy = d.liu.busy ∧ liu.driven = d.liu.driven ∧ liu.pairA = d.liu.pairA ∧ liu.pairB = d.liu.pairB)
    ∧ (ahead = false → timeDiff (res.plan.pulses.headD res.plan.tPred) d.clock < 1800 → tr.claimStatus = .none →
        d.rqs.records.length < 32 → tr.frames = [] →
      exec (.planHorizonDeadlineExpires t id) s = .next (settled s { d with
        htk := { d.htk with tracks := d.htk.tracks.filter fun x => x.id != id },
        rqs := { d.rqs with records := d.rqs.records ++ [missedRecord d .late (planned tr)] } }))
    ∧ ∃ (liu : Liu) (fx : Fx) (htk : Htk) (cdu : Cdu) (fdu : Fdu) (rqs : Rqs),
      exec (.planHorizonDeadlineExpires t id) s = .next (settled s { d with
        liu := liu, fx := fx, htk := htk, cdu := cdu, fdu := fdu, rqs := rqs })
      ∧ htk.tracks.filter (fun x => x.id != id) = d.htk.tracks.filter (fun x => x.id != id)
      ∧ (∀ x ∈ htk.tracks, x.id = id →
          (x.state = .planned ∨ x.state = .armed) ∧ ∃ p, x.plan = some p ∧ p.tPred = tr.pred.tPred)
      ∧ ((∀ x ∈ htk.tracks, x.id ≠ id) → d.rqs.records.length < 32 →
          ∃ (reason : Reason) (closing : Track),
            rqs.records = d.rqs.records ++ [missedRecord d reason closing] ∧ closing.id = id)
      ∧ (d.fdu.lastPulse = fdu.lastPulse ∧ d.fdu.state = fdu.state ∧ d.fdu.awaited = fdu.awaited)

/-- R101, R108, R109, R174: the miss deadline closes a PREDICTED or PLANNED track MISSED(LATE). The track leaves the
list and its record, with UNVERIFIED when it holds no verify entry and the passage number then held, joins a queue that
has a place; with no claim announced nothing else changes, and otherwise only the outbound queue and the transmitter
can. It rests on the model's choices of log 1 and log 3. -/
def Obligations.MissClosesTrack : Prop :=
  ∀ (t : Time) (id : Byte) (s : State) (d : Device) (tr : Track) (a : Time),
    FoundAt t s d → findTrack d id = some tr → (tr.state = .predicted ∨ tr.state = .planned) →
    tr.missDeadline = some a → isAfter a d.clock = false → d.rqs.records.length < 32 →
    ∃ (liu : Liu) (fx : Fx),
      exec (.missDeadlineExpires t id) s = .next (settled s { d with
        liu := liu, fx := fx,
        htk := { d.htk with tracks := d.htk.tracks.filter fun x => x.id != id },
        rqs := { d.rqs with records := d.rqs.records ++ [missedRecord d .late tr] } })
      ∧ (tr.claimStatus = .none → liu = d.liu ∧ fx = d.fx)
      ∧ (d.cfl.station ≠ .running → liu = d.liu ∧ fx = d.fx)

/-- R100, R128, R129, R155, R166: the arm point of a PLANNED track whose pulses all stand clear of the camera busy-until
time. Accepted, the track is ARMED with its frame list, its miss and arm-point deadlines gone and NO_CLAIM when no claim
is announced; the burst, its order and its flash plan join the drive units, and an IDLE camera becomes ORDERED. Refused,
the track closes MISSED(CAMERA). It rests on the model's choices of log 1, log 3 and log 23. -/
def Obligations.ArmPointArms : Prop :=
  ∀ (t : Time) (id : Byte) (s : State) (d : Device) (tr : Track) (a : Time) (p : Plan) (im : Image),
    FoundAt t s d → d.cfl.image = some im → findTrack d id = some tr → tr.state = .planned → tr.plan = some p →
    tr.armPoint = some a → isAfter a d.clock = false → 1 ≤ p.n → framesToDrop (busyUntil d id) p.pulses = 0 →
    let b := burstOf id p
    let order := exposureOrder im (bcdAdvance (d.cdu.bursts.length + 1) d.rqs.passage) tr b
    (acceptsBurst d = true →
      exec (.armPointDeadlineExpires t id) s = .next (settled s { d with
        htk := { d.htk with tracks := d.htk.tracks.map fun x =>
          if x.id == id then { x with
              state := .armed, plan := some p, frames := armedFrames p, missDeadline := none, armPoint := none,
              flags := { tr.flags with noClaim := tr.flags.noClaim || x.claimStatus == .none } }
          else x },
        cdu := { d.cdu with
          bursts := d.cdu.bursts ++ [b],
          state := if d.cdu.state = .idle then .ordered else d.cdu.state,
          orderLine :=
            if d.cdu.orderLine.isNone then some (order, d.clock + BitVec.ofNat 32 (5 * order.bytes.length))
            else d.cdu.orderLine,
          lineQueue := if d.cdu.orderLine.isNone then d.cdu.lineQueue else d.cdu.lineQueue ++ [order] },
        fdu := { d.fdu with
          plans := d.fdu.plans ++ [{ trackId := id, e := p.e, flashed := p.flashed, coLit := p.coLit }] } }))
    ∧ (acceptsBurst d = false → tr.claimStatus = .none → d.rqs.records.length < 32 →
      exec (.armPointDeadlineExpires t id) s = .next (settled s { d with
        htk := { d.htk with tracks := d.htk.tracks.filter fun x => x.id != id },
        rqs := { d.rqs with records := d.rqs.records ++ [missedRecord d .camera tr] } }))

/-- R138, R139: the expiry deadline of a neighbour claim removes that entry and no other; with no own track in PLANNED
nothing else changes. Before the deadline nothing changes. It rests on the model's choices of log 1, log 3 and log 16.
-/
def Obligations.NeighbourClaimExpires : Prop :=
  ∀ (t : Time) (station : Nat) (id : Byte) (s : State) (d : Device) (c : NeighbourClaim),
    FoundAt t s d → d.crs.claims.find? (fun x => x.key == { station := station, trackId := id }) = some c →
    (isAfter c.expiry d.clock = true →
      exec (.neighbourClaimExpires t station id) s = .next (settled s d))
    ∧ (isAfter c.expiry d.clock = false →
      ∃ (liu : Liu) (fx : Fx) (htk : Htk) (cdu : Cdu) (fdu : Fdu) (rqs : Rqs),
        exec (.neighbourClaimExpires t station id) s = .next (settled s { d with
          liu := liu, fx := fx, htk := htk, cdu := cdu, fdu := fdu, rqs := rqs,
          crs := { d.crs with claims := d.crs.claims.filter fun x => x.key != c.key } })
        ∧ ((∀ tr ∈ d.htk.tracks, tr.state ≠ .planned) →
            liu = d.liu ∧ fx = d.fx ∧ htk = d.htk ∧ cdu = d.cdu ∧ fdu = d.fdu ∧ rqs = d.rqs))

/-! ### Camera and flash -/

/-- R156, R159, R168: the ends of timed outputs, while no pulse can be issued, because the camera is not ORDERED or the
burst in hand has no pulse due. The end of a message records an exposure order's end with its burst and starts the first
message waiting, 5 µs a byte, or leaves the line IDLE; the trigger end and the fire end return CAM_TRG and FL_FIRE
inactive. Nothing else changes. It rests on the model's choices of log 1 and log 3. -/
def Obligations.TimedOutputsEnd : Prop :=
  ∀ (t : Time) (s : State) (d : Device) (a : Time), FoundAt t s d → isAfter a d.clock = false →
    let still := d.cdu.state ≠ .ordered
      ∨ ∀ b f, d.cdu.bursts.head? = some b → nextFrame b = some f → isAfter f.pulse d.clock = true
    (∀ m, still → d.cdu.orderLine = some (m, a) →
      let bursts := d.cdu.bursts.map fun b =>
        if m.isOrder && b.trackId == m.key then { b with orderEnd := some d.clock } else b
      (d.cdu.lineQueue = [] →
        exec (.orderMessageEnd t) s = .next (settled s { d with
          cdu := { d.cdu with bursts := bursts, orderLine := none } }))
      ∧ (∀ next rest, d.cdu.lineQueue = next :: rest →
        exec (.orderMessageEnd t) s = .next (settled s { d with
          cdu := { d.cdu with
            bursts := bursts, lineQueue := rest,
            orderLine := some (next, d.clock + BitVec.ofNat 32 (5 * next.bytes.length)) } })))
    ∧ (still → d.cdu.triggerEnd = some a →
      exec (.triggerEnd t) s = .next (settled s { d with cdu := { d.cdu with triggerEnd := none } }))
    ∧ (d.fdu.fireEnd = some a →
      exec (.flashFireEnd t) s = .next (settled s { d with fdu := { d.fdu with fireEnd := none } }))

/-- R159, R161, R127, R166, R103: the pulse of the first frame of the burst in hand that is neither issued nor settled,
once its time is reached, the camera is ORDERED, the camera setup has passed since the order end and CAM_TRG is
inactive. CAM_TRG is active for 10 µs; the camera is BUSY with the ready window of R about the actual time; the pulse is
late when it is not at its time; the last-pulse record, the flash decision at the trigger latency and the track in
EXPOSING follow. While one of the conditions fails nothing changes. It rests on the model's choices of log 1, log 3 and
log 18. -/
def Obligations.PulseIssued : Prop :=
  ∀ (t : Time) (s : State) (d : Device) (im : Image) (b : Burst) (rest : List Burst) (f : BurstFrame),
    FoundAt t s d → d.cfl.image = some im → d.cdu.bursts = b :: rest → nextFrame b = some f →
    let ready := !isAfter f.pulse d.clock && d.cdu.state == .ordered
      && due (b.orderEnd.map fun e => e + BitVec.ofNat 32 im.cameraSetup) d.clock && d.cdu.triggerEnd.isNone
    let after : Device := { d with
      cdu := { d.cdu with
        state := .busy, triggerEnd := some (d.clock + 10#32),
        bursts := d.cdu.bursts.map fun x =>
          if x.trackId == b.trackId then
            { x with frames := x.frames.map fun y =>
                if y.index == f.index then { y with pulse := d.clock, issued := true } else y }
          else x,
        outstanding := some
          { trackId := b.trackId, frame := f.index, pulse := d.clock,
            earlyBound := d.clock + BitVec.ofNat 32 (b.r - im.readyMargin),
            readyDeadline := d.clock + BitVec.ofNat 32 (b.r + im.readyMargin),
            issuedLate := f.overdue || f.pulse != d.clock } },
      cpl := { lastPulse := some (d.clock, b.r) },
      fdu := { d.fdu with decisions := d.fdu.decisions ++
        ((d.fdu.plans.filter fun p => p.trackId == b.trackId).take 1).map fun p =>
          { trackId := b.trackId, frame := f.index, instant := d.clock + BitVec.ofNat 32 im.triggerLatency,
            e := p.e, flashed := p.flashed.contains f.index, coLit := p.coLit } },
      htk := { d.htk with tracks := d.htk.tracks.map fun tr =>
        if tr.id == b.trackId then
          { tr with
            state := if tr.state = .armed then .exposing else tr.state,
            frames := tr.frames.map fun y =>
              if y.index == f.index then { y with pulse := d.clock, pulsed := true } else y }
        else tr } }
    (ready = true → exec (.issuePulse t) s = .next (settled s after)
      ∧ exec (.pulseTimeReached t b.trackId f.index) s = .next (settled s after))
    ∧ (ready = false → exec (.issuePulse t) s = .next (settled s d)
      ∧ exec (.pulseTimeReached t b.trackId f.index) s = .next (settled s d))

/-- R154, R162, R164, R199: BOOTING. A READY ends it with count 0; a boot deadline counts a timeout and is set one boot
window ahead again, and the fourth locks the camera, latches CAMERA_LOCKOUT and leaves no deadline. A READY that finds
IDLE, ORDERED or LOCKED changes nothing but the level of CAM_RDY. It rests on the model's choices of log 1, log 3 and
log 5. -/
def Obligations.BootWindowRuns : Prop :=
  ∀ (t : Time) (s : State) (d : Device), FoundAt t s d →
    let pins := { d.pins with camRdy := true }
    (∀ a, d.cdu.state = .booting → d.cdu.bootDeadline = some a →
      exec (.ready t) s = .next (settled s { d with
        pins := pins, cdu := { d.cdu with state := .idle, timeouts := 0, bootDeadline := none } }))
    ∧ ((d.cdu.state = .idle ∨ d.cdu.state = .ordered ∨ d.cdu.state = .locked) →
      exec (.ready t) s = .next (settled s { d with pins := pins }))
    ∧ (∀ a im, d.cdu.state = .booting → d.cdu.bootDeadline = some a → isAfter a d.clock = false →
        d.cfl.image = some im → d.cdu.bursts = [] →
      (d.cdu.timeouts < 3 →
        exec (.bootDeadlineExpires t) s = .next (settled s { d with
          cdu := { d.cdu with
            timeouts := d.cdu.timeouts + 1,
            bootDeadline := some (d.clock + BitVec.ofNat 32 (im.bootWindow * 1000)) } }))
      ∧ (d.cdu.timeouts = 3 →
        exec (.bootDeadlineExpires t) s = .next (settled s { d with
          cdu := { d.cdu with state := .locked, timeouts := 4, bootDeadline := none },
          rqs := { d.rqs with flags := d.rqs.flags ||| flagBit .cameraLockout } })))

/-- R161, R162, R104, R105, R109, R174, R175, TABLE 8-6: a READY settles the outstanding frame, no pulse being due:
READOUT_SUSPECT before the early bound, else LATE for a pulse issued late, else OK. The count becomes 0 and the camera
ORDERED, or IDLE without a burst. The burst stays while a frame of it has no outcome; with the last, it leaves the list
with its flash plan and an order of it still waiting. The track stays while a frame of it is not settled; with the last it
closes, PARTIAL with a frame TIMEOUT or CANCELLED and else CAPTURED, with the passage number advanced and its record in a
queue that has a place. A READY at the instant of the pulse itself is not yet due and changes nothing but the level of
CAM_RDY. Nothing else changes. It rests on the model's choices of log 1 and log 3. -/
def Obligations.ReadySettlesFrame : Prop :=
  ∀ (t : Time) (s : State) (d : Device) (o : Outstanding),
    FoundAt t s d → d.cdu.state = .busy → d.cdu.outstanding = some o →
    let pins := { d.pins with camRdy := true }
    let outcome : CameraOutcome :=
      if isBefore d.clock o.earlyBound then .readoutSuspect else if o.issuedLate then .late else .ok
    let settledTrack : Track → Track := fun tr =>
      { tr with frames := tr.frames.map fun y => if y.index == o.frame then { y with outcome := some outcome } else y }
    let tracks := d.htk.tracks.map fun tr => if tr.id == o.trackId then settledTrack tr else tr
    let open_ := fun tr : Track => ∃ f ∈ (settledTrack tr).frames,
      f.outcome = none ∨ (f.pulsed = true ∧ (f.flashReported = false ∨ (f.ownFired = true ∧ f.returnKnown = false)))
    let kept : Cdu := { d.cdu with
      timeouts := 0, outstanding := none, state := if d.cdu.bursts.isEmpty then .idle else .ordered,
      bursts := d.cdu.bursts.map fun x =>
        if x.trackId == o.trackId then
          { x with frames := x.frames.map fun y =>
              if y.index == o.frame then { y with outcome := some outcome } else y }
        else x }
    let left := d.cdu.bursts.filter fun b => b.trackId != o.trackId
    let dropped : Cdu := { d.cdu with
      timeouts := 0, outstanding := none, state := if left.isEmpty then .idle else .ordered, bursts := left,
      lineQueue := d.cdu.lineQueue.filter fun m => !(m.isOrder && m.key == o.trackId) }
    (o.pulse = d.clock → exec (.ready t) s = .next (settled s { d with pins := pins }))
    ∧ (o.pulse ≠ d.clock →
        (∀ b ∈ d.cdu.bursts, ∀ f ∈ b.frames, f.issued = false → isAfter f.pulse d.clock = true) →
        (∀ b ∈ d.cdu.bursts, b.trackId = o.trackId → ∃ f ∈ b.frames, f.index ≠ o.frame ∧ f.outcome = none) →
        (∀ tr ∈ d.htk.tracks, tr.id = o.trackId → open_ tr) →
      exec (.ready t) s = .next (settled s { d with pins := pins, cdu := kept, htk := { d.htk with tracks := tracks } }))
    ∧ (∀ tr, o.pulse ≠ d.clock → findTrack d o.trackId = some tr →
        (∀ b ∈ left, ∀ f ∈ b.frames, f.issued = false → isAfter f.pulse d.clock = true) →
        (∃ b ∈ d.cdu.bursts, b.trackId = o.trackId ∧ ∀ f ∈ b.frames, f.index = o.frame ∨ f.outcome ≠ none) →
        let plans := d.fdu.plans.filter fun p => p.trackId != o.trackId
        (open_ tr →
          exec (.ready t) s = .next (settled s { d with
            pins := pins, cdu := dropped, fdu := { d.fdu with plans := plans },
            htk := { d.htk with tracks := tracks } }))
        ∧ (¬ open_ tr → (∃ f ∈ tr.frames, f.pulsed = true) → d.rqs.records.length < 32 →
            let failed := (settledTrack tr).frames.any fun f =>
              f.outcome == some .timeout || f.outcome == some .cancelled
            exec (.ready t) s = .next (settled s { d with
              pins := pins, cdu := dropped, fdu := { d.fdu with plans := plans },
              htk := { d.htk with tracks := d.htk.tracks.filter fun x => x.id != o.trackId },
              rqs := { d.rqs with
                passage := bcdSucc d.rqs.passage,
                records := d.rqs.records ++
                  [closedRecord d (if failed then .partialCapture else .captured) (settledTrack tr)] } })))

/-- R163, R164, R104, R105, R156: the ready deadline. No frame is outstanding any more and the burst in hand is gone.
Below four timeouts the count rises by one and the camera is ORDERED with a burst and IDLE without; the fourth empties
the list, locks the camera with count 4 and no boot deadline, and latches CAMERA_LOCKOUT. Below four, with no pulse of
the next burst due, exactly this happens: the outstanding frame is TIMEOUT and every frame of its burst not yet issued
CANCELLED; the burst leaves with its flash plan and an order of it still waiting; a withdrawal of 20 µs is offered to the
order line when frames were cancelled and the order had begun; the track stays while a frame of it is not settled, and
else closes PARTIAL with the passage number advanced and its record in a queue that has a place. Before the deadline
nothing changes. It rests on the model's choices of log 1, log 3, log 29 and log 35. -/
def Obligations.ReadyDeadlineTimesOut : Prop :=
  ∀ (t : Time) (s : State) (d : Device) (o : Outstanding),
    FoundAt t s d → d.cdu.outstanding = some o →
    (isAfter o.readyDeadline d.clock = true → exec (.readyDeadlineExpires t) s = .next (settled s d))
    ∧ (isAfter o.readyDeadline d.clock = false →
      ∃ (liu : Liu) (fx : Fx) (htk : Htk) (cdu : Cdu) (fdu : Fdu) (rqs : Rqs),
        exec (.readyDeadlineExpires t) s = .next (settled s { d with
          liu := liu, fx := fx, htk := htk, cdu := cdu, fdu := fdu, rqs := rqs })
        ∧ cdu.outstanding = none ∧ (∀ b ∈ cdu.bursts, b.trackId ≠ o.trackId)
        ∧ (∀ p ∈ fdu.plans, p.trackId ≠ o.trackId ∨ ∀ b ∈ d.cdu.bursts, b.trackId ≠ o.trackId)
        ∧ fdu.state = d.fdu.state ∧ fdu.decisions = d.fdu.decisions ∧ fdu.awaited = d.fdu.awaited
        ∧ (d.cdu.timeouts < 3 →
            cdu.timeouts = d.cdu.timeouts + 1 ∧ cdu.bootDeadline = d.cdu.bootDeadline
            ∧ cdu.state = if cdu.bursts.isEmpty then .idle else .ordered)
        ∧ (d.cdu.timeouts = 3 →
            cdu.timeouts = 4 ∧ cdu.state = .locked ∧ cdu.bursts = [] ∧ cdu.bootDeadline = none
            ∧ rqs.flags &&& flagBit .cameraLockout = flagBit .cameraLockout))
    ∧ (∀ (b : Burst) (rest : List Burst) (tr : Track),
        isAfter o.readyDeadline d.clock = false → d.cdu.timeouts < 3 → d.cdu.bursts = b :: rest →
        b.trackId = o.trackId → (∀ x ∈ rest, x.trackId ≠ o.trackId) →
        (∀ x f, rest.head? = some x → nextFrame x = some f → isAfter f.pulse d.clock = true) →
        findTrack d o.trackId = some tr → (∃ f ∈ tr.frames, f.pulsed = true) →
        let cancelled := fun k : Nat => b.frames.any fun f =>
          f.index == k && f.index != o.frame && !f.issued && f.outcome.isNone
        let timedOut : Track → Track := fun x => { x with
          frames := x.frames.map fun y =>
            if y.index == o.frame then { y with outcome := some .timeout }
            else if cancelled y.index then { y with outcome := some .cancelled, flash := .none } else y }
        let begun := d.cdu.lineQueue.all fun m => !(m.isOrder && m.key == o.trackId)
        let queue := d.cdu.lineQueue.filter fun m => !(m.isOrder && m.key == o.trackId)
        let withdraws := b.frames.any (fun f => cancelled f.index) && begun
        let cdu : Cdu := { d.cdu with
          outstanding := none, timeouts := d.cdu.timeouts + 1, bursts := rest,
          state := if rest.isEmpty then .idle else .ordered,
          orderLine := if withdraws && d.cdu.orderLine.isNone then some (withdrawal o.trackId, d.clock + 20#32)
            else d.cdu.orderLine,
          lineQueue := if withdraws && d.cdu.orderLine.isSome then queue ++ [withdrawal o.trackId] else queue }
        let fdu : Fdu := { d.fdu with plans := d.fdu.plans.filter fun p => p.trackId != o.trackId }
        let open_ := ∃ f ∈ (timedOut tr).frames,
          f.outcome = none ∨ (f.pulsed = true ∧ (f.flashReported = false ∨ (f.ownFired = true ∧ f.returnKnown = false)))
        (open_ →
          exec (.readyDeadlineExpires t) s = .next (settled s { d with
            cdu := cdu, fdu := fdu,
            htk := { d.htk with tracks := d.htk.tracks.map fun x => if x.id == o.trackId then timedOut x else x } }))
        ∧ (¬ open_ → (∃ f ∈ tr.frames, f.index = o.frame) → d.rqs.records.length < 32 →
            exec (.readyDeadlineExpires t) s = .next (settled s { d with
              cdu := cdu, fdu := fdu,
              htk := { d.htk with tracks := d.htk.tracks.filter fun x => x.id != o.trackId },
              rqs := { d.rqs with
                passage := bcdSucc d.rqs.passage,
                records := d.rqs.records ++ [closedRecord d .partialCapture (timedOut tr)] } })))

/-- R167, R168, R151: a flash instant of a track that has a frame without camera outcome. A flashed frame fires when the
flash is IDLE and F_s has passed since the last flash: FL_FIRE for E, the return awaited for the return window, value
OWN; otherwise NONE. A frame with a co-lit source still held is not fired, value CO_LIT, with CO_LIT_LOST when the
source does not cover it. With the source no longer held CO_LIT_LOST is set, and the frame fires or is NONE as a flashed
one. Any other frame is NONE. It rests on the model's choices of log 1, log 3, log 15 and log 36. -/
def Obligations.FlashDecided : Prop :=
  ∀ (t : Time) (id : Byte) (k : Nat) (s : State) (d : Device) (x : FlashDecision) (im : Image),
    FoundAt t s d → d.cfl.image = some im →
    d.fdu.decisions.find? (fun y => y.trackId == id && y.frame == k) = some x → isAfter x.instant d.clock = false →
    (∀ tr ∈ d.htk.tracks, tr.id = id → ∃ f ∈ tr.frames, f.outcome = none) →
    let left := d.fdu.decisions.filter fun y => !(y.trackId == id && y.frame == k)
    let allowed := d.fdu.state == .idle
      && d.fdu.lastPulse.all fun l => decide ((im.flashSpacing : Int) ≤ timeDiff d.clock l)
    let reported : FlashValue → Bool → Bool → Htk := fun v fired lost =>
      { d.htk with tracks := d.htk.tracks.map fun tr =>
        if tr.id == id then
          { tr with
            flags := { tr.flags with coLitLost := tr.flags.coLitLost || lost },
            frames := tr.frames.map fun y =>
              if y.index == k then { y with flash := v, flashReported := true, ownFired := fired } else y }
        else tr }
    let fired : Fdu := { d.fdu with
      decisions := left, fireEnd := some (d.clock + BitVec.ofNat 32 x.e), lastPulse := some d.clock,
      awaited := d.fdu.awaited ++
        [{ trackId := id, frame := k, fired := d.clock, deadline := d.clock + BitVec.ofNat 32 im.returnWindow }] }
    (x.coLit = none → x.flashed = true → allowed = true →
      exec (.flashInstant t id k) s = .next (settled s { d with htk := reported .own true false, fdu := fired }))
    ∧ (∀ key, x.coLit = some key → (∀ y ∈ d.crs.claims, y.key ≠ key) →
      (allowed = true →
        exec (.flashInstant t id k) s = .next (settled s { d with htk := reported .own true true, fdu := fired }))
      ∧ (allowed = false →
        exec (.flashInstant t id k) s = .next (settled s { d with
          htk := reported .none false true, fdu := { d.fdu with decisions := left } })))
    ∧ (x.coLit = none → (x.flashed = true → allowed = false) →
      exec (.flashInstant t id k) s = .next (settled s { d with
        htk := reported .none false false, fdu := { d.fdu with decisions := left } }))
    ∧ (∀ key c, x.coLit = some key → d.crs.claims.find? (fun y => y.key == key) = some c →
      exec (.flashInstant t id k) s = .next (settled s { d with
        htk := reported .coLit false (!covers im.guardTime d.clock x.e c),
        fdu := { d.fdu with decisions := left } }))

/-- R168, R169, R170: the returns of a track that has a frame without camera outcome. A return is credited to the
earliest awaited return whose window, from 5 µs after the flash to its deadline, holds it, and in IDLE the misfire count
becomes 0; a return that fits none is disregarded. A return deadline marks the frame's misfire; in IDLE the count rises,
and the fourth locks the flash and latches FLASH_LOCKOUT; with no track in PLANNED nothing else changes. It rests on the
model's choices of log 1, log 3 and log 16. -/
def Obligations.ReturnsSettle : Prop :=
  ∀ (t : Time) (s : State) (d : Device) (x : AwaitedReturn), FoundAt t s d →
    (∀ tr ∈ d.htk.tracks, tr.id = x.trackId → ∃ f ∈ tr.frames, f.outcome = none) →
    let fits := fun y : AwaitedReturn => !isBefore d.clock (y.fired + 5#32) && !isAfter d.clock y.deadline
    let left := d.fdu.awaited.filter fun y => !(y.trackId == x.trackId && y.frame == x.frame)
    let known : Bool → Htk := fun bad =>
      { d.htk with tracks := d.htk.tracks.map fun tr =>
        if tr.id == x.trackId then
          { tr with frames := tr.frames.map fun y =>
              if y.index == x.frame then { y with misfire := y.misfire || bad, returnKnown := true } else y }
        else tr }
    (d.fdu.awaited.find? fits = none → exec (.flashReturn t) s = .next (settled s d))
    ∧ (d.fdu.awaited.find? fits = some x →
      exec (.flashReturn t) s = .next (settled s { d with
        htk := known false,
        fdu := { d.fdu with
          awaited := left, misfires := if d.fdu.state = .idle then 0 else d.fdu.misfires } }))
    ∧ (d.fdu.awaited.find? (fun y => y.trackId == x.trackId && y.frame == x.frame) = some x →
      (isAfter x.deadline d.clock = true →
        exec (.returnDeadlineExpires t x.trackId x.frame) s = .next (settled s d))
      ∧ (isAfter x.deadline d.clock = false → d.fdu.state = .locked →
        exec (.returnDeadlineExpires t x.trackId x.frame) s = .next (settled s { d with
          htk := known true, fdu := { d.fdu with awaited := left } }))
      ∧ (isAfter x.deadline d.clock = false → d.fdu.state = .idle → d.fdu.misfires ≠ 3 →
        exec (.returnDeadlineExpires t x.trackId x.frame) s = .next (settled s { d with
          htk := known true, fdu := { d.fdu with awaited := left, misfires := d.fdu.misfires + 1 } }))
      ∧ (isAfter x.deadline d.clock = false → d.fdu.state = .idle → d.fdu.misfires = 3 →
          (∀ tr ∈ d.htk.tracks, tr.state ≠ .planned) →
        exec (.returnDeadlineExpires t x.trackId x.frame) s = .next (settled s { d with
          htk := known true, fdu := { d.fdu with awaited := left, state := .locked, misfires := 4 },
          rqs := { d.rqs with flags := d.rqs.flags ||| flagBit .flashLockout } })))

/-! ### Records and the service port -/

/-- R174, R175: a record joins a queue of fewer than 32 and is discarded by a full one with RECORD_OVERFLOW; the passage
number is advanced for a CAPTURED or PARTIAL capture and for an APPROACHING sighting, kept or discarded, and the record
carries the number then held. Advancing is the decimal successor, 999999 being followed by 000000. -/
def Obligations.RecordsAndPassageNumbers : Prop :=
  (∀ (d : Device) (advance : Bool) (make : BitVec 24 → Record),
    let p := if advance then bcdSucc d.rqs.passage else d.rqs.passage
    (d.rqs.records.length < 32 →
      offerRecord advance make d =
        { d with rqs := { d.rqs with passage := p, records := d.rqs.records ++ [make p] } })
    ∧ (32 ≤ d.rqs.records.length →
      offerRecord advance make d =
        { d with rqs := { d.rqs with passage := p, flags := d.rqs.flags ||| flagBit .recordOverflow } }))
  ∧ (∀ (d : Device) (r : CaptureRecord),
      (offerCapture r d).rqs.passage =
        if r.outcome = .captured ∨ r.outcome = .partialCapture then bcdSucc d.rqs.passage else d.rqs.passage)
  ∧ (∀ (d : Device) (r : SightingRecord),
      (offerSighting r d).rqs.passage =
        if r.direction = .approaching then bcdSucc d.rqs.passage else d.rqs.passage)
  ∧ (∀ n : Nat, n < 1000000 →
      let digits := fun m : Nat => BitVec.ofNat 24 (m % 10 + 16 * (m / 10 % 10) + 256 * (m / 100 % 10)
        + 4096 * (m / 1000 % 10) + 65536 * (m / 10000 % 10) + 1048576 * (m / 100000 % 10))
      bcdSucc (digits n) = digits ((n + 1) % 1000000))

/-- R179 to R181, R183, R184, R201: STATUS, TAKE_RECORD, PEEK_PEERS and PEEK_TRACKS completed on an idle port. Each is
taken at once and answered with its command byte plus 80h; the receiver is IDLE. STATUS returns the latched flags last
and clears them; TAKE_RECORD removes the head record and returns it, or answers the empty reply; the peeks change
nothing else. It rests on the model's choices of log 1, log 13 and log 14. -/
def Obligations.QueriesAnswered : Prop :=
  ∀ (t : Time) (s : State) (d : Device),
    FoundAt t s d → d.rqs.receiver = .idle → d.rqs.reply = none →
    let answered : Byte → List Byte → Rqs → State := fun b contents q => settled s { d with
      rqs := { q with receiver := .idle, inHand := [], gapDeadline := none, reply := some (replyBytes b contents) } }
    exec (.status t) s = .next (answered 0x51#8 (statusContents d) { d.rqs with flags := 0#15 })
    ∧ (∃ summary, statusContents d = summary ++ bytesOf 2 d.rqs.flags.toNat)
    ∧ (d.rqs.records = [] → exec (.takeRecord t) s = .next (answered 0x52#8 [] d.rqs))
    ∧ (∀ r rest, d.rqs.records = r :: rest →
        exec (.takeRecord t) s = .next (answered 0x52#8 (recordBytes r) { d.rqs with records := rest }))
    ∧ exec (.peekPeers t) s = .next (answered 0x53#8 (peersContents d) d.rqs)
    ∧ exec (.peekTracks t) s = .next (answered 0x54#8 (tracksContents d) d.rqs)
    ∧ ∀ b contents, xorBytes (replyBytes b contents) = 0#8

/-- R185, R7, R2: FORCE_BEAMS completed on an idle port. In LOADING and CONFIG_FAULT it changes nothing and reports
NOT_APPLIED. On a curtain of a disabled pair of a working station the eight force values are replaced, with no other
effect while the pair's sequencer is IDLE, as it stays on such a pair, and APPLIED is reported; on any curtain of a
working station the values are replaced, raw levels, masks and deadlines of its beams and the other curtains' beams
stay, and the reply carries APPLIED and the dead flag after the effect. It rests on the model's choices of log 1 and log
13. -/
def Obligations.ForceBeamsTaken : Prop :=
  ∀ (t : Time) (c : Fin 4) (mask pattern : Byte) (s : State) (d : Device),
    FoundAt t s d → d.rqs.receiver = .idle → d.rqs.reply = none →
    (stationWorks d = false →
      exec (.forceBeams t c mask pattern) s = .next (settled s { d with
        rqs := { d.rqs with
          receiver := .idle, inHand := [], gapDeadline := none,
          reply := some (replyBytes 0x55#8 [1#8, boolByte (curtain d c).dead]) } }))
    ∧ (stationWorks d = true →
      ∃ (ciu : Ciu) (liu : Liu) (fx : Fx) (htk : Htk) (cpl : Cpl) (cdu : Cdu) (fdu : Fdu) (rqs : Rqs),
        exec (.forceBeams t c mask pattern) s = .next (settled s { d with
          ciu := ciu, liu := liu, fx := fx, htk := htk, cpl := cpl, cdu := cdu, fdu := fdu, rqs := rqs })
        ∧ (∀ i, (ciu.curtains.get c).beams.get i = { (curtain d c).beams.get i with
            forceMask := mask.getLsbD i.val, forcePattern := pattern.getLsbD i.val })
        ∧ (∀ k, k ≠ c → ciu.curtains.get k = curtain d k)
        ∧ rqs.reply = some (replyBytes 0x55#8 [0#8, boolByte (ciu.curtains.get c).dead])
        ∧ rqs.receiver = .idle ∧ rqs.held = d.rqs.held
        ∧ (enabledPair d (pairOf c) = none →
            liu = d.liu ∧ fx = d.fx ∧ htk = d.htk ∧ cpl = d.cpl ∧ cdu = d.cdu ∧ fdu = d.fdu
            ∧ rqs.records = d.rqs.records ∧ rqs.flags = d.rqs.flags ∧ rqs.passage = d.rqs.passage
            ∧ ciu.curtains.get c = { curtain d c with beams := (ciu.curtains.get c).beams }
            ∧ ((sequencer d (pairOf c)).state = .idle → ciu.pairs = d.ciu.pairs)))

/-- R186, R165, R171, R154: CLEAR_LOCKOUT completed on an idle port, by unit named. A LOCKED camera is BOOTING again
with count 0 and a boot deadline one boot window ahead while CAM_RDY is inactive; a LOCKED flash, no track being
PLANNED, is IDLE with count 0 and keeps its last pulse time; a unit not LOCKED or not named is unchanged. The reply
reports CLEARED, NOT_LOCKED or FFh for each. It rests on the model's choices of log 1, log 5 and log 13. -/
def Obligations.ClearLockoutTaken : Prop :=
  ∀ (t : Time) (u : LockoutUnit) (s : State) (d : Device) (im : Image),
    FoundAt t s d → d.rqs.receiver = .idle → d.rqs.reply = none → d.cfl.image = some im →
    (∀ tr ∈ d.htk.tracks, tr.state ≠ .planned) →
    let camera := decide (u = .camera ∨ u = .both)
    let flash := decide (u = .flash ∨ u = .both)
    let result : Bool → Bool → Byte := fun named locked => if named then (if locked then 0#8 else 1#8) else 0xFF#8
    exec (.clearLockout t u false) s = .next (settled s { d with
      pins := { d.pins with camRdy := false },
      cdu := if camera && d.cdu.state == .locked then
          { d.cdu with
            state := .booting, timeouts := 0,
            bootDeadline := some (d.clock + BitVec.ofNat 32 (im.bootWindow * 1000)) }
        else d.cdu,
      fdu := if flash && d.fdu.state == .locked then { d.fdu with state := .idle, misfires := 0 } else d.fdu,
      rqs := { d.rqs with
        receiver := .idle, inHand := [], gapDeadline := none,
        reply := some (replyBytes 0x56#8
          [result camera (d.cdu.state == .locked), result flash (d.fdu.state == .locked)]) } })

/-- R187, R188, R190, R198: RESTART completed on an idle port with straps 1 to 31. Every block takes its reset values
and the load begins afresh with those straps; records and flags are lost but RESTARTED; the clock and the passage number
are kept, and the reply carries that number and LOADING. It rests on the model's choices of log 1, log 5, log 13 and log
26. -/
def Obligations.RestartTaken : Prop :=
  ∀ (t : Time) (stn : BitVec 5) (role : Role) (s : State) (d : Device),
    FoundAt t s d → d.rqs.receiver = .idle → d.rqs.reply = none → stn ≠ 0#5 →
    exec (.restart t stn role) s = .next (settled s
      { clock := d.clock, pins := { d.pins with stn := stn, role := role },
        cfl := { Cfl.reset with
          number := some stn.toNat, role := some role, loadStep := .readStation,
          reading := some (stn.toNat, d.clock + 2080#32), indicator := .shortPulse, indActive := true,
          phaseDeadline := some (d.clock + 100000#32) },
        ciu := resetCiu d.ciu, liu := Liu.reset, fx := Fx.reset, ptb := Ptb.reset, htk := Htk.reset, cpl := Cpl.reset,
        crs := Crs.reset, cdu := Cdu.reset, fdu := Fdu.reset,
        rqs := { Rqs.reset d.rqs.passage (flagBit .restarted) with
          reply := some (replyBytes 0x57#8 (bytesOf 3 d.rqs.passage.toNat ++ [0#8])) } })

/-- R178, R179, R180, R201: the receiver. From IDLE a command byte of TABLE 12-3 is taken in hand and any other byte, or
one with a framing error, sends it to DISCARDING with SERVICE_ERROR; in RECEIVING a framing error does, and a good byte is
added to the command in hand; while DISCARDING a byte only restarts the gap. Every byte that leaves the receiver in
RECEIVING or DISCARDING sets the gap deadline 5,000 µs ahead. The byte that completes the command in hand returns the
receiver to IDLE without a deadline: a command that R179 discards leaves SERVICE_ERROR, one completed while a reply is
sent waits when none does, and STATUS completed on an idle port is answered. A gap in RECEIVING discards the command in
hand with SERVICE_ERROR, one in DISCARDING without. A full-length command that R179 discards has no effect beyond
SERVICE_ERROR. A complete command is read back as the one its bytes were built from. It rests on the model's choices of
log 1, log 3, log 5 and log 13. -/
def Obligations.ReceiverGathers : Prop :=
  ∀ (t : Time) (s : State) (d : Device), FoundAt t s d →
    let received : Receiver → List Byte → Bool → State := fun r bytes bad => settled s { d with
      rqs := { d.rqs with
        receiver := r, inHand := bytes, gapDeadline := some (d.clock + 5000#32),
        flags := if bad then d.rqs.flags ||| flagBit .serviceError else d.rqs.flags } }
    let idle : Rqs := { d.rqs with receiver := .idle, inHand := [], gapDeadline := none }
    (∀ b stn role camRdy, d.rqs.receiver = .idle → 0x51#8 ≤ b → b ≤ 0x57#8 →
      exec (.serviceByteReceived t ⟨b, stn, role, camRdy⟩) s = .next (received .receiving [b] false))
    ∧ (∀ b stn role camRdy first more, d.rqs.receiver = .receiving → d.rqs.inHand = first :: more →
      let pins : Pins := { d.pins with stn := stn, role := role, camRdy := camRdy }
      let whole := d.rqs.inHand ++ [b]
      (whole.length ≠ commandLength first →
        exec (.serviceByteReceived t ⟨b, stn, role, camRdy⟩) s = .next (received .receiving whole false))
      ∧ (whole.length = commandLength first → judgeCommand whole = none →
        exec (.serviceByteReceived t ⟨b, stn, role, camRdy⟩) s = .next (settled s { d with
          pins := pins, rqs := { idle with flags := d.rqs.flags ||| flagBit .serviceError } }))
      ∧ (∀ c sending, whole = commandBytes c → d.rqs.reply = some sending → d.rqs.held = none →
        exec (.serviceByteReceived t ⟨b, stn, role, camRdy⟩) s = .next (settled s { d with
          pins := pins, rqs := { idle with held := some c } }))
      ∧ (whole = [0x51#8, 0x51#8] → d.rqs.reply = none →
        exec (.serviceByteReceived t ⟨b, stn, role, camRdy⟩) s = .next (settled s { d with
          pins := pins,
          rqs := { idle with
            flags := 0#15,
            reply := some (replyBytes 0x51#8 (statusContents { d with pins := pins, rqs := idle })) } })))
    ∧ (∀ b bad, d.rqs.receiver = .idle → (bad = true ∨ b < 0x51#8 ∨ 0x57#8 < b) →
      exec (.serviceByteError t b bad) s = .next (received .discarding [] true))
    ∧ (∀ b, d.rqs.receiver = .receiving → exec (.serviceByteError t b true) s = .next (received .discarding [] true))
    ∧ (∀ b bad, d.rqs.receiver = .discarding →
      exec (.serviceByteError t b bad) s = .next (received .discarding [] false))
    ∧ (∀ a, d.rqs.gapDeadline = some a → isAfter a d.clock = false →
        (d.rqs.receiver = .receiving ∨ d.rqs.receiver = .discarding) →
      exec (.gapDeadlineExpires t) s = .next (settled s { d with
        rqs := { d.rqs with
          receiver := .idle, inHand := [], gapDeadline := none,
          flags := if d.rqs.receiver = .receiving then d.rqs.flags ||| flagBit .serviceError else d.rqs.flags } }))
    ∧ (∀ bytes, d.rqs.receiver = .idle → discardedCommand bytes = true →
      exec (.invalidCommand t bytes) s = .next (settled s { d with
        rqs := { d.rqs with
          inHand := [], gapDeadline := none, flags := d.rqs.flags ||| flagBit .serviceError } }))
    ∧ (∀ c : ServiceCommand, judgeCommand (commandBytes c) = some c)

/-- R180: a command completed while a reply is being sent. With none pending it is held and nothing else happens; with
one pending it is discarded with SERVICE_ERROR and the pending one stays. At the end of the reply the transmitter is
IDLE, and a pending command, here STATUS, is taken at that instant. It rests on the model's choices of log 1, log 5 and
log 13. -/
def Obligations.CommandsWait : Prop :=
  ∀ (t : Time) (s : State) (d : Device) (sending : List Byte),
    FoundAt t s d → d.rqs.receiver = .idle → d.rqs.reply = some sending →
    let quiet : Rqs := { d.rqs with inHand := [], gapDeadline := none }
    let waits : Instr → ServiceCommand → Pins → Prop := fun i c pins =>
      (d.rqs.held = none → exec i s = .next (settled s { d with pins := pins, rqs := { quiet with held := some c } }))
      ∧ (d.rqs.held ≠ none → exec i s = .next (settled s { d with
          pins := pins, rqs := { quiet with flags := d.rqs.flags ||| flagBit .serviceError } }))
    waits (.status t) .status d.pins ∧ waits (.takeRecord t) .takeRecord d.pins
    ∧ waits (.peekPeers t) .peekPeers d.pins ∧ waits (.peekTracks t) .peekTracks d.pins
    ∧ (∀ c mask pattern, waits (.forceBeams t c mask pattern) (.forceBeams c mask pattern) d.pins)
    ∧ (∀ u camRdy, waits (.clearLockout t u camRdy) (.clearLockout u) { d.pins with camRdy := camRdy })
    ∧ (∀ stn role, waits (.restart t stn role) .restart { d.pins with stn := stn, role := role })
    ∧ (∀ stn role camRdy, d.rqs.held = none →
        exec (.replyEnd t stn role camRdy) s = .next (settled s { d with rqs := { d.rqs with reply := none } }))
    ∧ (∀ stn role camRdy, d.rqs.held = some .status →
        exec (.replyEnd t stn role camRdy) s = .next (settled s { d with
          rqs := { d.rqs with
            held := none, flags := 0#15, reply := some (replyBytes 0x51#8 (statusContents d)) } }))

/-! ### What every step keeps -/

/-- R40, R49, R81, R82, R96, R134, R174, TABLE 2-1, 8.2: the lists, queues and counters stay within the bounds the rules
give them, and no two live tracks share an id, after every step from every state where they do. It rests on the model's
choices of log 2. -/
def Obligations.BoundsKept : Prop :=
  ∀ s s' : State, Bounded s.dev → TracksDistinct s.dev → step s = .next s' → Bounded s'.dev ∧ TracksDistinct s'.dev

/-- R24, R36, R45, R50, R58, R63, R79, R111, R132, R152, R153, R169, R173, R190, R194, TABLE 8-3: after every step the
blocks agree with the station's state. Station Control's deadlines belong to its states, only a station in RUNNING
queues or drives a frame, the blocks hold their reset values in LOADING and CONFIG_FAULT, and the drive units' counts,
states and the outstanding frame agree. It rests on the model's choices of log 2. -/
def Obligations.BlocksFollowStation : Prop :=
  ∀ s s' : State,
    StationAgrees s.dev → OnlyRunningSends s.dev → ResetHeld s.dev → LockoutsAgree s.dev → step s = .next s' →
    StationAgrees s'.dev ∧ OnlyRunningSends s'.dev ∧ ResetHeld s'.dev ∧ LockoutsAgree s'.dev

/-- R199: after every step the indicator shows the first pattern of TABLE 10-6 whose condition holds. It rests on the
model's choices of log 2 and log 37. -/
def Obligations.IndicatorFollows : Prop :=
  ∀ s s' : State, IndicatorShows s.dev → step s = .next s' → IndicatorShows s'.dev

/-- The machine right after reset has every property that the steps keep, and nothing waits. It rests on the model's
choices of log 4. -/
def Obligations.ResetSatisfies : Prop :=
  Bounded State.reset.dev ∧ TracksDistinct State.reset.dev ∧ StationAgrees State.reset.dev
  ∧ OnlyRunningSends State.reset.dev ∧ ResetHeld State.reset.dev ∧ LockoutsAgree State.reset.dev
  ∧ IndicatorShows State.reset.dev ∧ State.reset.pending = []

end
end

