-- ==== Sys2Proof/Laws/Frames.lean ====
section
/-! SUPPORT. What each operation on the part leaves unchanged: one lemma per operation, naming every block it does not
write. -/

namespace Sys2Proof.Machine

/-! ### Sweeps -/

/-- A reading of the part that every pass keeps is kept by the whole sweep. -/
theorem forEach_proj {α β : Type} (g : Device → β) (l : List α) (f : α → Device → Device) (d : Device)
    (h : ∀ a x, g (f a x) = g x) : g (forEach l f d) = g d := by
  unfold forEach
  induction l generalizing d with
  | nil => rfl
  | cons a l ih => simp [ih, h]

@[simp] theorem forEach_clock {α : Type} (l : List α) (f : α → Device → Device) (d : Device)
    (h : ∀ a x, (f a x).clock = x.clock) : (forEach l f d).clock = d.clock :=
  forEach_proj (·.clock) l f d h

@[simp] theorem forEach_pins {α : Type} (l : List α) (f : α → Device → Device) (d : Device)
    (h : ∀ a x, (f a x).pins = x.pins) : (forEach l f d).pins = d.pins :=
  forEach_proj (·.pins) l f d h

@[simp] theorem forEach_cfl {α : Type} (l : List α) (f : α → Device → Device) (d : Device)
    (h : ∀ a x, (f a x).cfl = x.cfl) : (forEach l f d).cfl = d.cfl :=
  forEach_proj (·.cfl) l f d h

@[simp] theorem forEach_ciu {α : Type} (l : List α) (f : α → Device → Device) (d : Device)
    (h : ∀ a x, (f a x).ciu = x.ciu) : (forEach l f d).ciu = d.ciu :=
  forEach_proj (·.ciu) l f d h

@[simp] theorem forEach_liu {α : Type} (l : List α) (f : α → Device → Device) (d : Device)
    (h : ∀ a x, (f a x).liu = x.liu) : (forEach l f d).liu = d.liu :=
  forEach_proj (·.liu) l f d h

@[simp] theorem forEach_fx {α : Type} (l : List α) (f : α → Device → Device) (d : Device)
    (h : ∀ a x, (f a x).fx = x.fx) : (forEach l f d).fx = d.fx :=
  forEach_proj (·.fx) l f d h

@[simp] theorem forEach_ptb {α : Type} (l : List α) (f : α → Device → Device) (d : Device)
    (h : ∀ a x, (f a x).ptb = x.ptb) : (forEach l f d).ptb = d.ptb :=
  forEach_proj (·.ptb) l f d h

@[simp] theorem forEach_htk {α : Type} (l : List α) (f : α → Device → Device) (d : Device)
    (h : ∀ a x, (f a x).htk = x.htk) : (forEach l f d).htk = d.htk :=
  forEach_proj (·.htk) l f d h

@[simp] theorem forEach_cpl {α : Type} (l : List α) (f : α → Device → Device) (d : Device)
    (h : ∀ a x, (f a x).cpl = x.cpl) : (forEach l f d).cpl = d.cpl :=
  forEach_proj (·.cpl) l f d h

@[simp] theorem forEach_crs {α : Type} (l : List α) (f : α → Device → Device) (d : Device)
    (h : ∀ a x, (f a x).crs = x.crs) : (forEach l f d).crs = d.crs :=
  forEach_proj (·.crs) l f d h

@[simp] theorem forEach_cdu {α : Type} (l : List α) (f : α → Device → Device) (d : Device)
    (h : ∀ a x, (f a x).cdu = x.cdu) : (forEach l f d).cdu = d.cdu :=
  forEach_proj (·.cdu) l f d h

@[simp] theorem forEach_fdu {α : Type} (l : List α) (f : α → Device → Device) (d : Device)
    (h : ∀ a x, (f a x).fdu = x.fdu) : (forEach l f d).fdu = d.fdu :=
  forEach_proj (·.fdu) l f d h

@[simp] theorem forEach_rqs {α : Type} (l : List α) (f : α → Device → Device) (d : Device)
    (h : ∀ a x, (f a x).rqs = x.rqs) : (forEach l f d).rqs = d.rqs :=
  forEach_proj (·.rqs) l f d h

/-! ### Ops.lean -/

@[simp] theorem advanceTo_frame (t : Time) (d : Device) :
    (advanceTo t d).pins = d.pins ∧ (advanceTo t d).cfl = d.cfl ∧ (advanceTo t d).ciu = d.ciu
    ∧ (advanceTo t d).liu = d.liu ∧ (advanceTo t d).fx = d.fx ∧ (advanceTo t d).ptb = d.ptb
    ∧ (advanceTo t d).htk = d.htk ∧ (advanceTo t d).cpl = d.cpl ∧ (advanceTo t d).crs = d.crs
    ∧ (advanceTo t d).cdu = d.cdu ∧ (advanceTo t d).fdu = d.fdu ∧ (advanceTo t d).rqs = d.rqs := by
  unfold advanceTo
  split <;> simp

@[simp] theorem tick_frame (d : Device) :
    (tick d).pins = d.pins ∧ (tick d).cfl = d.cfl ∧ (tick d).ciu = d.ciu ∧ (tick d).liu = d.liu
    ∧ (tick d).fx = d.fx ∧ (tick d).ptb = d.ptb ∧ (tick d).htk = d.htk ∧ (tick d).cpl = d.cpl
    ∧ (tick d).crs = d.crs ∧ (tick d).cdu = d.cdu ∧ (tick d).fdu = d.fdu ∧ (tick d).rqs = d.rqs := by
  unfold tick
  split <;> simp

@[simp] theorem setCurtain_frame (c : Fin 4) (x : Curtain) (d : Device) :
    (setCurtain c x d).clock = d.clock ∧ (setCurtain c x d).pins = d.pins ∧ (setCurtain c x d).cfl = d.cfl
    ∧ (setCurtain c x d).liu = d.liu ∧ (setCurtain c x d).fx = d.fx ∧ (setCurtain c x d).ptb = d.ptb
    ∧ (setCurtain c x d).htk = d.htk ∧ (setCurtain c x d).cpl = d.cpl ∧ (setCurtain c x d).crs = d.crs
    ∧ (setCurtain c x d).cdu = d.cdu ∧ (setCurtain c x d).fdu = d.fdu ∧ (setCurtain c x d).rqs = d.rqs := by
  simp [setCurtain]

@[simp] theorem setSequencer_frame (p : Fin 2) (x : Sequencer) (d : Device) :
    (setSequencer p x d).clock = d.clock ∧ (setSequencer p x d).pins = d.pins ∧ (setSequencer p x d).cfl = d.cfl
    ∧ (setSequencer p x d).liu = d.liu ∧ (setSequencer p x d).fx = d.fx ∧ (setSequencer p x d).ptb = d.ptb
    ∧ (setSequencer p x d).htk = d.htk ∧ (setSequencer p x d).cpl = d.cpl ∧ (setSequencer p x d).crs = d.crs
    ∧ (setSequencer p x d).cdu = d.cdu ∧ (setSequencer p x d).fdu = d.fdu ∧ (setSequencer p x d).rqs = d.rqs := by
  simp [setSequencer]

@[simp] theorem setLinePair_frame (p : LinePair) (x : PairState) (d : Device) :
    (setLinePair p x d).clock = d.clock ∧ (setLinePair p x d).pins = d.pins ∧ (setLinePair p x d).cfl = d.cfl
    ∧ (setLinePair p x d).ciu = d.ciu ∧ (setLinePair p x d).fx = d.fx ∧ (setLinePair p x d).ptb = d.ptb
    ∧ (setLinePair p x d).htk = d.htk ∧ (setLinePair p x d).cpl = d.cpl ∧ (setLinePair p x d).crs = d.crs
    ∧ (setLinePair p x d).cdu = d.cdu ∧ (setLinePair p x d).fdu = d.fdu ∧ (setLinePair p x d).rqs = d.rqs := by
  unfold setLinePair
  split <;> simp

@[simp] theorem setPeer_frame (p : Nat) (x : PeerEntry) (d : Device) :
    (setPeer p x d).clock = d.clock ∧ (setPeer p x d).pins = d.pins ∧ (setPeer p x d).cfl = d.cfl
    ∧ (setPeer p x d).ciu = d.ciu ∧ (setPeer p x d).liu = d.liu ∧ (setPeer p x d).fx = d.fx
    ∧ (setPeer p x d).htk = d.htk ∧ (setPeer p x d).cpl = d.cpl ∧ (setPeer p x d).crs = d.crs
    ∧ (setPeer p x d).cdu = d.cdu ∧ (setPeer p x d).fdu = d.fdu ∧ (setPeer p x d).rqs = d.rqs := by
  unfold setPeer
  (repeat' split) <;> simp

@[simp] theorem setTracks_frame (l : List Track) (d : Device) :
    (setTracks l d).clock = d.clock ∧ (setTracks l d).pins = d.pins ∧ (setTracks l d).cfl = d.cfl
    ∧ (setTracks l d).ciu = d.ciu ∧ (setTracks l d).liu = d.liu ∧ (setTracks l d).fx = d.fx
    ∧ (setTracks l d).ptb = d.ptb ∧ (setTracks l d).cpl = d.cpl ∧ (setTracks l d).crs = d.crs
    ∧ (setTracks l d).cdu = d.cdu ∧ (setTracks l d).fdu = d.fdu ∧ (setTracks l d).rqs = d.rqs := by
  simp [setTracks]

@[simp] theorem modifyTrack_frame (id : Byte) (f : Track → Track) (d : Device) :
    (modifyTrack id f d).clock = d.clock ∧ (modifyTrack id f d).pins = d.pins ∧ (modifyTrack id f d).cfl = d.cfl
    ∧ (modifyTrack id f d).ciu = d.ciu ∧ (modifyTrack id f d).liu = d.liu ∧ (modifyTrack id f d).fx = d.fx
    ∧ (modifyTrack id f d).ptb = d.ptb ∧ (modifyTrack id f d).cpl = d.cpl ∧ (modifyTrack id f d).crs = d.crs
    ∧ (modifyTrack id f d).cdu = d.cdu ∧ (modifyTrack id f d).fdu = d.fdu ∧ (modifyTrack id f d).rqs = d.rqs := by
  simp [modifyTrack]

@[simp] theorem placeTrack_frame (tr : Track) (d : Device) :
    (placeTrack tr d).clock = d.clock ∧ (placeTrack tr d).pins = d.pins ∧ (placeTrack tr d).cfl = d.cfl
    ∧ (placeTrack tr d).ciu = d.ciu ∧ (placeTrack tr d).liu = d.liu ∧ (placeTrack tr d).fx = d.fx
    ∧ (placeTrack tr d).ptb = d.ptb ∧ (placeTrack tr d).cpl = d.cpl ∧ (placeTrack tr d).crs = d.crs
    ∧ (placeTrack tr d).cdu = d.cdu ∧ (placeTrack tr d).fdu = d.fdu ∧ (placeTrack tr d).rqs = d.rqs := by
  simp [placeTrack]

/-! ### Flags.lean -/

@[simp] theorem raise_frame (f : EventFlag) (d : Device) :
    (raise f d).clock = d.clock ∧ (raise f d).pins = d.pins ∧ (raise f d).cfl = d.cfl ∧ (raise f d).ciu = d.ciu
    ∧ (raise f d).liu = d.liu ∧ (raise f d).fx = d.fx ∧ (raise f d).ptb = d.ptb ∧ (raise f d).htk = d.htk
    ∧ (raise f d).cpl = d.cpl ∧ (raise f d).crs = d.crs ∧ (raise f d).cdu = d.cdu ∧ (raise f d).fdu = d.fdu := by
  simp [raise]

@[simp] theorem startPattern_frame (p : Indicator) (d : Device) :
    (startPattern p d).clock = d.clock ∧ (startPattern p d).pins = d.pins ∧ (startPattern p d).ciu = d.ciu
    ∧ (startPattern p d).liu = d.liu ∧ (startPattern p d).fx = d.fx ∧ (startPattern p d).ptb = d.ptb
    ∧ (startPattern p d).htk = d.htk ∧ (startPattern p d).cpl = d.cpl ∧ (startPattern p d).crs = d.crs
    ∧ (startPattern p d).cdu = d.cdu ∧ (startPattern p d).fdu = d.fdu ∧ (startPattern p d).rqs = d.rqs := by
  simp [startPattern]

@[simp] theorem refreshIndicator_frame (d : Device) :
    (refreshIndicator d).clock = d.clock ∧ (refreshIndicator d).pins = d.pins ∧ (refreshIndicator d).ciu = d.ciu
    ∧ (refreshIndicator d).liu = d.liu ∧ (refreshIndicator d).fx = d.fx ∧ (refreshIndicator d).ptb = d.ptb
    ∧ (refreshIndicator d).htk = d.htk ∧ (refreshIndicator d).cpl = d.cpl ∧ (refreshIndicator d).crs = d.crs
    ∧ (refreshIndicator d).cdu = d.cdu ∧ (refreshIndicator d).fdu = d.fdu ∧ (refreshIndicator d).rqs = d.rqs := by
  unfold refreshIndicator
  split <;> simp

/-! ### Records.lean -/

@[simp] theorem joinRecords_frame (r : Record) (d : Device) :
    (joinRecords r d).clock = d.clock ∧ (joinRecords r d).pins = d.pins ∧ (joinRecords r d).cfl = d.cfl
    ∧ (joinRecords r d).ciu = d.ciu ∧ (joinRecords r d).liu = d.liu ∧ (joinRecords r d).fx = d.fx
    ∧ (joinRecords r d).ptb = d.ptb ∧ (joinRecords r d).htk = d.htk ∧ (joinRecords r d).cpl = d.cpl
    ∧ (joinRecords r d).crs = d.crs ∧ (joinRecords r d).cdu = d.cdu ∧ (joinRecords r d).fdu = d.fdu := by
  unfold joinRecords
  split <;> simp

@[simp] theorem offerRecord_frame (advance : Bool) (make : BitVec 24 → Record) (d : Device) :
    (offerRecord advance make d).clock = d.clock ∧ (offerRecord advance make d).pins = d.pins
    ∧ (offerRecord advance make d).cfl = d.cfl ∧ (offerRecord advance make d).ciu = d.ciu
    ∧ (offerRecord advance make d).liu = d.liu ∧ (offerRecord advance make d).fx = d.fx
    ∧ (offerRecord advance make d).ptb = d.ptb ∧ (offerRecord advance make d).htk = d.htk
    ∧ (offerRecord advance make d).cpl = d.cpl ∧ (offerRecord advance make d).crs = d.crs
    ∧ (offerRecord advance make d).cdu = d.cdu ∧ (offerRecord advance make d).fdu = d.fdu := by
  simp [offerRecord]

@[simp] theorem offerCapture_frame (r : CaptureRecord) (d : Device) :
    (offerCapture r d).clock = d.clock ∧ (offerCapture r d).pins = d.pins ∧ (offerCapture r d).cfl = d.cfl
    ∧ (offerCapture r d).ciu = d.ciu ∧ (offerCapture r d).liu = d.liu ∧ (offerCapture r d).fx = d.fx
    ∧ (offerCapture r d).ptb = d.ptb ∧ (offerCapture r d).htk = d.htk ∧ (offerCapture r d).cpl = d.cpl
    ∧ (offerCapture r d).crs = d.crs ∧ (offerCapture r d).cdu = d.cdu ∧ (offerCapture r d).fdu = d.fdu := by
  simp [offerCapture]

@[simp] theorem offerSighting_frame (r : SightingRecord) (d : Device) :
    (offerSighting r d).clock = d.clock ∧ (offerSighting r d).pins = d.pins ∧ (offerSighting r d).cfl = d.cfl
    ∧ (offerSighting r d).ciu = d.ciu ∧ (offerSighting r d).liu = d.liu ∧ (offerSighting r d).fx = d.fx
    ∧ (offerSighting r d).ptb = d.ptb ∧ (offerSighting r d).htk = d.htk ∧ (offerSighting r d).cpl = d.cpl
    ∧ (offerSighting r d).crs = d.crs ∧ (offerSighting r d).cdu = d.cdu ∧ (offerSighting r d).fdu = d.fdu := by
  simp [offerSighting]

/-! ### Exchange.lean -/

@[simp] theorem transmitterEmpty_frame (d : Device) :
    (transmitterEmpty d).clock = d.clock ∧ (transmitterEmpty d).pins = d.pins ∧ (transmitterEmpty d).cfl = d.cfl
    ∧ (transmitterEmpty d).ciu = d.ciu ∧ (transmitterEmpty d).fx = d.fx ∧ (transmitterEmpty d).ptb = d.ptb
    ∧ (transmitterEmpty d).htk = d.htk ∧ (transmitterEmpty d).cpl = d.cpl ∧ (transmitterEmpty d).crs = d.crs
    ∧ (transmitterEmpty d).cdu = d.cdu ∧ (transmitterEmpty d).fdu = d.fdu ∧ (transmitterEmpty d).rqs = d.rqs := by
  simp [transmitterEmpty]

@[simp] theorem transmitterWaits_frame (d : Device) :
    (transmitterWaits d).clock = d.clock ∧ (transmitterWaits d).pins = d.pins ∧ (transmitterWaits d).cfl = d.cfl
    ∧ (transmitterWaits d).ciu = d.ciu ∧ (transmitterWaits d).fx = d.fx ∧ (transmitterWaits d).ptb = d.ptb
    ∧ (transmitterWaits d).htk = d.htk ∧ (transmitterWaits d).cpl = d.cpl ∧ (transmitterWaits d).crs = d.crs
    ∧ (transmitterWaits d).cdu = d.cdu ∧ (transmitterWaits d).fdu = d.fdu ∧ (transmitterWaits d).rqs = d.rqs := by
  simp [transmitterWaits]

@[simp] theorem transmitterDefers_frame (d : Device) :
    (transmitterDefers d).clock = d.clock ∧ (transmitterDefers d).pins = d.pins
    ∧ (transmitterDefers d).cfl = d.cfl ∧ (transmitterDefers d).ciu = d.ciu ∧ (transmitterDefers d).fx = d.fx
    ∧ (transmitterDefers d).ptb = d.ptb ∧ (transmitterDefers d).htk = d.htk ∧ (transmitterDefers d).cpl = d.cpl
    ∧ (transmitterDefers d).crs = d.crs ∧ (transmitterDefers d).cdu = d.cdu ∧ (transmitterDefers d).fdu = d.fdu
    ∧ (transmitterDefers d).rqs = d.rqs := by
  simp [transmitterDefers]

@[simp] theorem forgetCollided_frame (d : Device) :
    (forgetCollided d).clock = d.clock ∧ (forgetCollided d).pins = d.pins ∧ (forgetCollided d).cfl = d.cfl
    ∧ (forgetCollided d).ciu = d.ciu ∧ (forgetCollided d).fx = d.fx ∧ (forgetCollided d).ptb = d.ptb
    ∧ (forgetCollided d).htk = d.htk ∧ (forgetCollided d).cpl = d.cpl ∧ (forgetCollided d).crs = d.crs
    ∧ (forgetCollided d).cdu = d.cdu ∧ (forgetCollided d).fdu = d.fdu ∧ (forgetCollided d).rqs = d.rqs := by
  unfold forgetCollided
  (repeat' split) <;> simp

@[simp] theorem followQueue_frame (d : Device) :
    (followQueue d).clock = d.clock ∧ (followQueue d).pins = d.pins ∧ (followQueue d).cfl = d.cfl
    ∧ (followQueue d).ciu = d.ciu ∧ (followQueue d).fx = d.fx ∧ (followQueue d).ptb = d.ptb
    ∧ (followQueue d).htk = d.htk ∧ (followQueue d).cpl = d.cpl ∧ (followQueue d).crs = d.crs
    ∧ (followQueue d).cdu = d.cdu ∧ (followQueue d).fdu = d.fdu ∧ (followQueue d).rqs = d.rqs := by
  unfold followQueue
  (repeat' split) <;> simp

@[simp] theorem setQueue_frame (q : List QueueEntry) (d : Device) :
    (setQueue q d).clock = d.clock ∧ (setQueue q d).pins = d.pins ∧ (setQueue q d).cfl = d.cfl
    ∧ (setQueue q d).ciu = d.ciu ∧ (setQueue q d).ptb = d.ptb ∧ (setQueue q d).htk = d.htk
    ∧ (setQueue q d).cpl = d.cpl ∧ (setQueue q d).crs = d.crs ∧ (setQueue q d).cdu = d.cdu
    ∧ (setQueue q d).fdu = d.fdu ∧ (setQueue q d).rqs = d.rqs := by
  simp [setQueue]

@[simp] theorem removeEntry_frame (order : Nat) (d : Device) :
    (removeEntry order d).clock = d.clock ∧ (removeEntry order d).pins = d.pins
    ∧ (removeEntry order d).cfl = d.cfl ∧ (removeEntry order d).ciu = d.ciu ∧ (removeEntry order d).ptb = d.ptb
    ∧ (removeEntry order d).htk = d.htk ∧ (removeEntry order d).cpl = d.cpl ∧ (removeEntry order d).crs = d.crs
    ∧ (removeEntry order d).cdu = d.cdu ∧ (removeEntry order d).fdu = d.fdu ∧ (removeEntry order d).rqs = d.rqs := by
  simp [removeEntry]

@[simp] theorem modifyEntry_frame (order : Nat) (f : QueueEntry → QueueEntry) (d : Device) :
    (modifyEntry order f d).clock = d.clock ∧ (modifyEntry order f d).pins = d.pins
    ∧ (modifyEntry order f d).cfl = d.cfl ∧ (modifyEntry order f d).ciu = d.ciu
    ∧ (modifyEntry order f d).ptb = d.ptb ∧ (modifyEntry order f d).htk = d.htk
    ∧ (modifyEntry order f d).cpl = d.cpl ∧ (modifyEntry order f d).crs = d.crs
    ∧ (modifyEntry order f d).cdu = d.cdu ∧ (modifyEntry order f d).fdu = d.fdu
    ∧ (modifyEntry order f d).rqs = d.rqs := by
  simp [modifyEntry]

@[simp] theorem joinQueue_frame (out : Outbound) (d : Device) :
    (joinQueue out d).1.clock = d.clock ∧ (joinQueue out d).1.pins = d.pins ∧ (joinQueue out d).1.cfl = d.cfl
    ∧ (joinQueue out d).1.ciu = d.ciu ∧ (joinQueue out d).1.ptb = d.ptb ∧ (joinQueue out d).1.htk = d.htk
    ∧ (joinQueue out d).1.cpl = d.cpl ∧ (joinQueue out d).1.crs = d.crs ∧ (joinQueue out d).1.cdu = d.cdu
    ∧ (joinQueue out d).1.fdu = d.fdu ∧ (joinQueue out d).1.rqs = d.rqs := by
  unfold joinQueue
  (repeat' split) <;> simp

/-- A superseded frame's count is all that goes. -/
@[simp] theorem supersede_frame (order : Nat) (d : Device) :
    (supersede order d).clock = d.clock ∧ (supersede order d).pins = d.pins ∧ (supersede order d).cfl = d.cfl
    ∧ (supersede order d).ciu = d.ciu ∧ (supersede order d).fx = d.fx ∧ (supersede order d).ptb = d.ptb
    ∧ (supersede order d).htk = d.htk ∧ (supersede order d).cpl = d.cpl ∧ (supersede order d).crs = d.crs
    ∧ (supersede order d).cdu = d.cdu ∧ (supersede order d).fdu = d.fdu ∧ (supersede order d).rqs = d.rqs
    ∧ (supersede order d).liu.busy = d.liu.busy ∧ (supersede order d).liu.transmitter = d.liu.transmitter
    ∧ (supersede order d).liu.driven = d.liu.driven ∧ (supersede order d).liu.frameInHand = d.liu.frameInHand := by
  unfold supersede
  split <;> simp

@[simp] theorem requestPresence_frame (d : Device) :
    (requestPresence d).clock = d.clock ∧ (requestPresence d).pins = d.pins ∧ (requestPresence d).cfl = d.cfl
    ∧ (requestPresence d).ciu = d.ciu ∧ (requestPresence d).ptb = d.ptb ∧ (requestPresence d).htk = d.htk
    ∧ (requestPresence d).cpl = d.cpl ∧ (requestPresence d).crs = d.crs ∧ (requestPresence d).cdu = d.cdu
    ∧ (requestPresence d).fdu = d.fdu ∧ (requestPresence d).rqs = d.rqs := by
  unfold requestPresence
  (repeat' split) <;> simp

@[simp] theorem requestSighting_frame (c : SightingContents) (d : Device) :
    (requestSighting c d).clock = d.clock ∧ (requestSighting c d).pins = d.pins
    ∧ (requestSighting c d).cfl = d.cfl ∧ (requestSighting c d).ciu = d.ciu ∧ (requestSighting c d).ptb = d.ptb
    ∧ (requestSighting c d).htk = d.htk ∧ (requestSighting c d).cpl = d.cpl ∧ (requestSighting c d).crs = d.crs
    ∧ (requestSighting c d).cdu = d.cdu ∧ (requestSighting c d).fdu = d.fdu ∧ (requestSighting c d).rqs = d.rqs := by
  unfold requestSighting
  split <;> simp

@[simp] theorem requestClaim_frame (c : ClaimContents) (d : Device) :
    (requestClaim c d).1.clock = d.clock ∧ (requestClaim c d).1.pins = d.pins ∧ (requestClaim c d).1.cfl = d.cfl
    ∧ (requestClaim c d).1.ciu = d.ciu ∧ (requestClaim c d).1.ptb = d.ptb ∧ (requestClaim c d).1.htk = d.htk
    ∧ (requestClaim c d).1.cpl = d.cpl ∧ (requestClaim c d).1.crs = d.crs ∧ (requestClaim c d).1.cdu = d.cdu
    ∧ (requestClaim c d).1.fdu = d.fdu ∧ (requestClaim c d).1.rqs = d.rqs := by
  unfold requestClaim
  (repeat' split) <;> simp

@[simp] theorem requestRelease_frame (id : Byte) (d : Device) :
    (requestRelease id d).clock = d.clock ∧ (requestRelease id d).pins = d.pins
    ∧ (requestRelease id d).cfl = d.cfl ∧ (requestRelease id d).ciu = d.ciu ∧ (requestRelease id d).ptb = d.ptb
    ∧ (requestRelease id d).htk = d.htk ∧ (requestRelease id d).cpl = d.cpl ∧ (requestRelease id d).crs = d.crs
    ∧ (requestRelease id d).cdu = d.cdu ∧ (requestRelease id d).fdu = d.fdu ∧ (requestRelease id d).rqs = d.rqs := by
  unfold requestRelease
  (repeat' split) <;> simp

/-! ### Camera.lean -/

@[simp] theorem offerMessage_frame (m : OrderMessage) (d : Device) :
    (offerMessage m d).clock = d.clock ∧ (offerMessage m d).pins = d.pins ∧ (offerMessage m d).cfl = d.cfl
    ∧ (offerMessage m d).ciu = d.ciu ∧ (offerMessage m d).liu = d.liu ∧ (offerMessage m d).fx = d.fx
    ∧ (offerMessage m d).ptb = d.ptb ∧ (offerMessage m d).htk = d.htk ∧ (offerMessage m d).cpl = d.cpl
    ∧ (offerMessage m d).crs = d.crs ∧ (offerMessage m d).fdu = d.fdu ∧ (offerMessage m d).rqs = d.rqs := by
  unfold offerMessage
  split <;> simp

@[simp] theorem endMessage_frame (d : Device) :
    (endMessage d).clock = d.clock ∧ (endMessage d).pins = d.pins ∧ (endMessage d).cfl = d.cfl
    ∧ (endMessage d).ciu = d.ciu ∧ (endMessage d).liu = d.liu ∧ (endMessage d).fx = d.fx
    ∧ (endMessage d).ptb = d.ptb ∧ (endMessage d).htk = d.htk ∧ (endMessage d).cpl = d.cpl
    ∧ (endMessage d).crs = d.crs ∧ (endMessage d).fdu = d.fdu ∧ (endMessage d).rqs = d.rqs := by
  unfold endMessage
  (repeat' split) <;> simp

@[simp] theorem acceptBurst_frame (im : Image) (tr : Track) (b : Burst) (fp : FlashPlan) (d : Device) :
    (acceptBurst im tr b fp d).clock = d.clock ∧ (acceptBurst im tr b fp d).pins = d.pins
    ∧ (acceptBurst im tr b fp d).cfl = d.cfl ∧ (acceptBurst im tr b fp d).ciu = d.ciu
    ∧ (acceptBurst im tr b fp d).liu = d.liu ∧ (acceptBurst im tr b fp d).fx = d.fx
    ∧ (acceptBurst im tr b fp d).ptb = d.ptb ∧ (acceptBurst im tr b fp d).htk = d.htk
    ∧ (acceptBurst im tr b fp d).cpl = d.cpl ∧ (acceptBurst im tr b fp d).crs = d.crs
    ∧ (acceptBurst im tr b fp d).rqs = d.rqs := by
  simp [acceptBurst]

@[simp] theorem dropBurst_frame (id : Byte) (d : Device) :
    (dropBurst id d).clock = d.clock ∧ (dropBurst id d).pins = d.pins ∧ (dropBurst id d).cfl = d.cfl
    ∧ (dropBurst id d).ciu = d.ciu ∧ (dropBurst id d).liu = d.liu ∧ (dropBurst id d).fx = d.fx
    ∧ (dropBurst id d).ptb = d.ptb ∧ (dropBurst id d).htk = d.htk ∧ (dropBurst id d).cpl = d.cpl
    ∧ (dropBurst id d).crs = d.crs ∧ (dropBurst id d).rqs = d.rqs := by
  simp [dropBurst]

@[simp] theorem restState_frame (d : Device) :
    (restState d).clock = d.clock ∧ (restState d).pins = d.pins ∧ (restState d).cfl = d.cfl
    ∧ (restState d).ciu = d.ciu ∧ (restState d).liu = d.liu ∧ (restState d).fx = d.fx
    ∧ (restState d).ptb = d.ptb ∧ (restState d).htk = d.htk ∧ (restState d).cpl = d.cpl
    ∧ (restState d).crs = d.crs ∧ (restState d).fdu = d.fdu ∧ (restState d).rqs = d.rqs := by
  simp [restState]

/-! ### Tracks.lean -/

@[simp] theorem closeTrack_frame (outcome : TrackOutcome) (reason : Reason) (id : Byte) (d : Device) :
    (closeTrack outcome reason id d).clock = d.clock ∧ (closeTrack outcome reason id d).pins = d.pins
    ∧ (closeTrack outcome reason id d).cfl = d.cfl ∧ (closeTrack outcome reason id d).ciu = d.ciu
    ∧ (closeTrack outcome reason id d).ptb = d.ptb ∧ (closeTrack outcome reason id d).cpl = d.cpl
    ∧ (closeTrack outcome reason id d).crs = d.crs ∧ (closeTrack outcome reason id d).cdu = d.cdu
    ∧ (closeTrack outcome reason id d).fdu = d.fdu := by
  unfold closeTrack
  (repeat' split) <;> simp

@[simp] theorem closeIfSettled_frame (id : Byte) (d : Device) :
    (closeIfSettled id d).clock = d.clock ∧ (closeIfSettled id d).pins = d.pins
    ∧ (closeIfSettled id d).cfl = d.cfl ∧ (closeIfSettled id d).ciu = d.ciu ∧ (closeIfSettled id d).ptb = d.ptb
    ∧ (closeIfSettled id d).cpl = d.cpl ∧ (closeIfSettled id d).crs = d.crs ∧ (closeIfSettled id d).cdu = d.cdu
    ∧ (closeIfSettled id d).fdu = d.fdu := by
  unfold closeIfSettled
  (repeat' split) <;> simp

@[simp] theorem modifyFrame_frame (id : Byte) (k : Nat) (f : FrameEntry → FrameEntry) (d : Device) :
    (modifyFrame id k f d).clock = d.clock ∧ (modifyFrame id k f d).pins = d.pins
    ∧ (modifyFrame id k f d).cfl = d.cfl ∧ (modifyFrame id k f d).ciu = d.ciu
    ∧ (modifyFrame id k f d).liu = d.liu ∧ (modifyFrame id k f d).fx = d.fx ∧ (modifyFrame id k f d).ptb = d.ptb
    ∧ (modifyFrame id k f d).cpl = d.cpl ∧ (modifyFrame id k f d).crs = d.crs
    ∧ (modifyFrame id k f d).cdu = d.cdu ∧ (modifyFrame id k f d).fdu = d.fdu
    ∧ (modifyFrame id k f d).rqs = d.rqs := by
  simp [modifyFrame]

@[simp] theorem reportOutcome_frame (id : Byte) (k : Nat) (o : CameraOutcome) (d : Device) :
    (reportOutcome id k o d).clock = d.clock ∧ (reportOutcome id k o d).pins = d.pins
    ∧ (reportOutcome id k o d).cfl = d.cfl ∧ (reportOutcome id k o d).ciu = d.ciu
    ∧ (reportOutcome id k o d).liu = d.liu ∧ (reportOutcome id k o d).fx = d.fx
    ∧ (reportOutcome id k o d).ptb = d.ptb ∧ (reportOutcome id k o d).cpl = d.cpl
    ∧ (reportOutcome id k o d).crs = d.crs ∧ (reportOutcome id k o d).cdu = d.cdu
    ∧ (reportOutcome id k o d).fdu = d.fdu ∧ (reportOutcome id k o d).rqs = d.rqs := by
  simp [reportOutcome]

@[simp] theorem armTrack_frame (id : Byte) (d : Device) :
    (armTrack id d).clock = d.clock ∧ (armTrack id d).pins = d.pins ∧ (armTrack id d).cfl = d.cfl
    ∧ (armTrack id d).ciu = d.ciu ∧ (armTrack id d).ptb = d.ptb ∧ (armTrack id d).cpl = d.cpl
    ∧ (armTrack id d).crs = d.crs := by
  simp only [armTrack]
  (repeat' split) <;> simp

@[simp] theorem fixArmPoint_frame (id : Byte) (d : Device) :
    (fixArmPoint id d).clock = d.clock ∧ (fixArmPoint id d).pins = d.pins ∧ (fixArmPoint id d).cfl = d.cfl
    ∧ (fixArmPoint id d).ciu = d.ciu ∧ (fixArmPoint id d).ptb = d.ptb ∧ (fixArmPoint id d).cpl = d.cpl
    ∧ (fixArmPoint id d).crs = d.crs := by
  unfold fixArmPoint
  (repeat' split) <;> simp

@[simp] theorem claimDecision_frame (id : Byte) (d : Device) :
    (claimDecision id d).1.clock = d.clock ∧ (claimDecision id d).1.pins = d.pins
    ∧ (claimDecision id d).1.cfl = d.cfl ∧ (claimDecision id d).1.ciu = d.ciu
    ∧ (claimDecision id d).1.ptb = d.ptb ∧ (claimDecision id d).1.cpl = d.cpl
    ∧ (claimDecision id d).1.crs = d.crs ∧ (claimDecision id d).1.cdu = d.cdu
    ∧ (claimDecision id d).1.fdu = d.fdu ∧ (claimDecision id d).1.rqs = d.rqs := by
  simp only [claimDecision]
  (repeat' split) <;> simp

@[simp] theorem resolveOnce_frame (id : Byte) (d : Device) :
    (resolveOnce id d).1.clock = d.clock ∧ (resolveOnce id d).1.pins = d.pins ∧ (resolveOnce id d).1.cfl = d.cfl
    ∧ (resolveOnce id d).1.ciu = d.ciu ∧ (resolveOnce id d).1.ptb = d.ptb ∧ (resolveOnce id d).1.cpl = d.cpl
    ∧ (resolveOnce id d).1.crs = d.crs := by
  unfold resolveOnce
  (repeat' split) <;> simp

@[simp] theorem resolveTrack_frame (id : Byte) (d : Device) :
    (resolveTrack id d).clock = d.clock ∧ (resolveTrack id d).pins = d.pins ∧ (resolveTrack id d).cfl = d.cfl
    ∧ (resolveTrack id d).ciu = d.ciu ∧ (resolveTrack id d).ptb = d.ptb ∧ (resolveTrack id d).cpl = d.cpl
    ∧ (resolveTrack id d).crs = d.crs := by
  unfold resolveTrack
  simp only []
  split <;> simp

@[simp] theorem resolveAll_frame (d : Device) :
    (resolveAll d).clock = d.clock ∧ (resolveAll d).pins = d.pins ∧ (resolveAll d).cfl = d.cfl
    ∧ (resolveAll d).ciu = d.ciu ∧ (resolveAll d).ptb = d.ptb ∧ (resolveAll d).cpl = d.cpl
    ∧ (resolveAll d).crs = d.crs := by
  simp [resolveAll]

@[simp] theorem dropReport_frame (reason : DropReason) (id : Byte) (d : Device) :
    (dropReport reason id d).clock = d.clock ∧ (dropReport reason id d).pins = d.pins
    ∧ (dropReport reason id d).cfl = d.cfl ∧ (dropReport reason id d).ciu = d.ciu
    ∧ (dropReport reason id d).ptb = d.ptb ∧ (dropReport reason id d).cpl = d.cpl
    ∧ (dropReport reason id d).crs = d.crs := by
  unfold dropReport
  (repeat' split) <;> simp

@[simp] theorem reportDropped_frame (reason : DropReason) (e : QueueEntry) (d : Device) :
    (reportDropped reason e d).clock = d.clock ∧ (reportDropped reason e d).pins = d.pins
    ∧ (reportDropped reason e d).cfl = d.cfl ∧ (reportDropped reason e d).ciu = d.ciu
    ∧ (reportDropped reason e d).ptb = d.ptb ∧ (reportDropped reason e d).cpl = d.cpl
    ∧ (reportDropped reason e d).crs = d.crs := by
  unfold reportDropped
  (repeat' split) <;> simp

@[simp] theorem claimHeardBack_frame (id : Byte) (centre : Time) (d : Device) :
    (claimHeardBack id centre d).clock = d.clock ∧ (claimHeardBack id centre d).pins = d.pins
    ∧ (claimHeardBack id centre d).cfl = d.cfl ∧ (claimHeardBack id centre d).ciu = d.ciu
    ∧ (claimHeardBack id centre d).liu = d.liu ∧ (claimHeardBack id centre d).fx = d.fx
    ∧ (claimHeardBack id centre d).ptb = d.ptb ∧ (claimHeardBack id centre d).cpl = d.cpl
    ∧ (claimHeardBack id centre d).crs = d.crs ∧ (claimHeardBack id centre d).cdu = d.cdu
    ∧ (claimHeardBack id centre d).fdu = d.fdu ∧ (claimHeardBack id centre d).rqs = d.rqs := by
  simp [claimHeardBack]

@[simp] theorem planTrack_frame (id : Byte) (d : Device) :
    (planTrack id d).clock = d.clock ∧ (planTrack id d).pins = d.pins ∧ (planTrack id d).cfl = d.cfl
    ∧ (planTrack id d).ciu = d.ciu ∧ (planTrack id d).ptb = d.ptb ∧ (planTrack id d).cpl = d.cpl
    ∧ (planTrack id d).crs = d.crs := by
  unfold planTrack
  split <;> simp

@[simp] theorem replanTrack_frame (id : Byte) (d : Device) :
    (replanTrack id d).clock = d.clock ∧ (replanTrack id d).pins = d.pins ∧ (replanTrack id d).cfl = d.cfl
    ∧ (replanTrack id d).ciu = d.ciu ∧ (replanTrack id d).ptb = d.ptb ∧ (replanTrack id d).cpl = d.cpl
    ∧ (replanTrack id d).crs = d.crs := by
  unfold replanTrack
  (repeat' split) <;> simp

@[simp] theorem replanAll_frame (d : Device) :
    (replanAll d).clock = d.clock ∧ (replanAll d).pins = d.pins ∧ (replanAll d).cfl = d.cfl
    ∧ (replanAll d).ciu = d.ciu ∧ (replanAll d).ptb = d.ptb ∧ (replanAll d).cpl = d.cpl
    ∧ (replanAll d).crs = d.crs := by
  simp [replanAll]

@[simp] theorem enterHorizon_frame (id : Byte) (d : Device) :
    (enterHorizon id d).clock = d.clock ∧ (enterHorizon id d).pins = d.pins ∧ (enterHorizon id d).cfl = d.cfl
    ∧ (enterHorizon id d).ciu = d.ciu ∧ (enterHorizon id d).ptb = d.ptb ∧ (enterHorizon id d).cpl = d.cpl
    ∧ (enterHorizon id d).crs = d.crs := by
  unfold enterHorizon
  (repeat' split) <;> simp

@[simp] theorem changeClaims_frame (l : List NeighbourClaim) (made : Option NeighbourClaim) (d : Device) :
    (changeClaims l made d).clock = d.clock ∧ (changeClaims l made d).pins = d.pins
    ∧ (changeClaims l made d).cfl = d.cfl ∧ (changeClaims l made d).ciu = d.ciu
    ∧ (changeClaims l made d).ptb = d.ptb ∧ (changeClaims l made d).cpl = d.cpl := by
  unfold changeClaims
  split <;> simp

@[simp] theorem removeClaim_frame (key : ClaimKey) (d : Device) :
    (removeClaim key d).clock = d.clock ∧ (removeClaim key d).pins = d.pins ∧ (removeClaim key d).cfl = d.cfl
    ∧ (removeClaim key d).ciu = d.ciu ∧ (removeClaim key d).ptb = d.ptb ∧ (removeClaim key d).cpl = d.cpl := by
  unfold removeClaim
  split <;> simp

@[simp] theorem takeClaim_frame (key : ClaimKey) (f : ClaimFrame) (centre : Time) (d : Device) :
    (takeClaim key f centre d).clock = d.clock ∧ (takeClaim key f centre d).pins = d.pins
    ∧ (takeClaim key f centre d).cfl = d.cfl ∧ (takeClaim key f centre d).ciu = d.ciu
    ∧ (takeClaim key f centre d).ptb = d.ptb ∧ (takeClaim key f centre d).cpl = d.cpl := by
  simp only [takeClaim]
  (repeat' split) <;> simp

/-! ### Pulses.lean -/

@[simp] theorem modifyBurstFrame_frame (id : Byte) (k : Nat) (f : BurstFrame → BurstFrame) (d : Device) :
    (modifyBurstFrame id k f d).clock = d.clock ∧ (modifyBurstFrame id k f d).pins = d.pins
    ∧ (modifyBurstFrame id k f d).cfl = d.cfl ∧ (modifyBurstFrame id k f d).ciu = d.ciu
    ∧ (modifyBurstFrame id k f d).liu = d.liu ∧ (modifyBurstFrame id k f d).fx = d.fx
    ∧ (modifyBurstFrame id k f d).ptb = d.ptb ∧ (modifyBurstFrame id k f d).htk = d.htk
    ∧ (modifyBurstFrame id k f d).cpl = d.cpl ∧ (modifyBurstFrame id k f d).crs = d.crs
    ∧ (modifyBurstFrame id k f d).fdu = d.fdu ∧ (modifyBurstFrame id k f d).rqs = d.rqs := by
  simp [modifyBurstFrame]

@[simp] theorem issueNow_frame (im : Image) (b : Burst) (f : BurstFrame) (d : Device) :
    (issueNow im b f d).clock = d.clock ∧ (issueNow im b f d).pins = d.pins ∧ (issueNow im b f d).cfl = d.cfl
    ∧ (issueNow im b f d).ciu = d.ciu ∧ (issueNow im b f d).liu = d.liu ∧ (issueNow im b f d).fx = d.fx
    ∧ (issueNow im b f d).ptb = d.ptb ∧ (issueNow im b f d).crs = d.crs ∧ (issueNow im b f d).rqs = d.rqs := by
  simp [issueNow]

@[simp] theorem issuePulses_frame (d : Device) :
    (issuePulses d).clock = d.clock ∧ (issuePulses d).pins = d.pins ∧ (issuePulses d).cfl = d.cfl
    ∧ (issuePulses d).ciu = d.ciu ∧ (issuePulses d).liu = d.liu ∧ (issuePulses d).fx = d.fx
    ∧ (issuePulses d).ptb = d.ptb ∧ (issuePulses d).crs = d.crs ∧ (issuePulses d).rqs = d.rqs := by
  unfold issuePulses
  (repeat' split) <;> simp

@[simp] theorem trimBurst_frame (id : Byte) (by_ : Int) (d : Device) :
    (trimBurst id by_ d).clock = d.clock ∧ (trimBurst id by_ d).pins = d.pins ∧ (trimBurst id by_ d).cfl = d.cfl
    ∧ (trimBurst id by_ d).ciu = d.ciu ∧ (trimBurst id by_ d).liu = d.liu ∧ (trimBurst id by_ d).fx = d.fx
    ∧ (trimBurst id by_ d).ptb = d.ptb ∧ (trimBurst id by_ d).htk = d.htk ∧ (trimBurst id by_ d).cpl = d.cpl
    ∧ (trimBurst id by_ d).crs = d.crs ∧ (trimBurst id by_ d).fdu = d.fdu ∧ (trimBurst id by_ d).rqs = d.rqs := by
  simp [trimBurst]

@[simp] theorem settleFrame_frame (id : Byte) (k : Nat) (o : CameraOutcome) (d : Device) :
    (settleFrame id k o d).clock = d.clock ∧ (settleFrame id k o d).pins = d.pins
    ∧ (settleFrame id k o d).cfl = d.cfl ∧ (settleFrame id k o d).ciu = d.ciu
    ∧ (settleFrame id k o d).liu = d.liu ∧ (settleFrame id k o d).fx = d.fx ∧ (settleFrame id k o d).ptb = d.ptb
    ∧ (settleFrame id k o d).cpl = d.cpl ∧ (settleFrame id k o d).crs = d.crs
    ∧ (settleFrame id k o d).fdu = d.fdu ∧ (settleFrame id k o d).rqs = d.rqs := by
  simp [settleFrame]

@[simp] theorem dropIfSettled_frame (id : Byte) (d : Device) :
    (dropIfSettled id d).clock = d.clock ∧ (dropIfSettled id d).pins = d.pins ∧ (dropIfSettled id d).cfl = d.cfl
    ∧ (dropIfSettled id d).ciu = d.ciu ∧ (dropIfSettled id d).liu = d.liu ∧ (dropIfSettled id d).fx = d.fx
    ∧ (dropIfSettled id d).ptb = d.ptb ∧ (dropIfSettled id d).htk = d.htk ∧ (dropIfSettled id d).cpl = d.cpl
    ∧ (dropIfSettled id d).crs = d.crs ∧ (dropIfSettled id d).rqs = d.rqs := by
  unfold dropIfSettled
  split <;> simp

@[simp] theorem settleReady_frame (o : Outstanding) (d : Device) :
    (settleReady o d).clock = d.clock ∧ (settleReady o d).pins = d.pins ∧ (settleReady o d).cfl = d.cfl
    ∧ (settleReady o d).ciu = d.ciu ∧ (settleReady o d).ptb = d.ptb ∧ (settleReady o d).cpl = d.cpl
    ∧ (settleReady o d).crs = d.crs := by
  simp [settleReady]

@[simp] theorem takeReady_frame (d : Device) :
    (takeReady d).clock = d.clock ∧ (takeReady d).pins = d.pins ∧ (takeReady d).cfl = d.cfl
    ∧ (takeReady d).ciu = d.ciu ∧ (takeReady d).ptb = d.ptb ∧ (takeReady d).crs = d.crs := by
  unfold takeReady
  (repeat' split) <;> simp

@[simp] theorem startBoot_frame (im : Image) (d : Device) :
    (startBoot im d).clock = d.clock ∧ (startBoot im d).pins = d.pins ∧ (startBoot im d).cfl = d.cfl
    ∧ (startBoot im d).ciu = d.ciu ∧ (startBoot im d).ptb = d.ptb ∧ (startBoot im d).crs = d.crs := by
  unfold startBoot
  split <;> simp

@[simp] theorem cancelFrames_frame (b : Burst) (d : Device) :
    (cancelFrames b d).clock = d.clock ∧ (cancelFrames b d).pins = d.pins ∧ (cancelFrames b d).cfl = d.cfl
    ∧ (cancelFrames b d).ciu = d.ciu ∧ (cancelFrames b d).liu = d.liu ∧ (cancelFrames b d).fx = d.fx
    ∧ (cancelFrames b d).ptb = d.ptb ∧ (cancelFrames b d).cpl = d.cpl ∧ (cancelFrames b d).crs = d.crs
    ∧ (cancelFrames b d).fdu = d.fdu ∧ (cancelFrames b d).rqs = d.rqs := by
  simp [cancelFrames]

@[simp] theorem cancelBurst_frame (b : Burst) (d : Device) :
    (cancelBurst b d).clock = d.clock ∧ (cancelBurst b d).pins = d.pins ∧ (cancelBurst b d).cfl = d.cfl
    ∧ (cancelBurst b d).ciu = d.ciu ∧ (cancelBurst b d).liu = d.liu ∧ (cancelBurst b d).fx = d.fx
    ∧ (cancelBurst b d).ptb = d.ptb ∧ (cancelBurst b d).cpl = d.cpl ∧ (cancelBurst b d).crs = d.crs
    ∧ (cancelBurst b d).rqs = d.rqs := by
  unfold cancelBurst
  simp only []
  split <;> simp

@[simp] theorem lockCamera_frame (d : Device) :
    (lockCamera d).clock = d.clock ∧ (lockCamera d).pins = d.pins ∧ (lockCamera d).cfl = d.cfl
    ∧ (lockCamera d).ciu = d.ciu ∧ (lockCamera d).ptb = d.ptb ∧ (lockCamera d).cpl = d.cpl
    ∧ (lockCamera d).crs = d.crs := by
  simp [lockCamera]

@[simp] theorem timeOut_frame (o : Outstanding) (d : Device) :
    (timeOut o d).clock = d.clock ∧ (timeOut o d).pins = d.pins ∧ (timeOut o d).cfl = d.cfl
    ∧ (timeOut o d).ciu = d.ciu ∧ (timeOut o d).ptb = d.ptb ∧ (timeOut o d).cpl = d.cpl
    ∧ (timeOut o d).crs = d.crs := by
  unfold timeOut
  simp only []
  split <;> simp

@[simp] theorem bootExpires_frame (im : Image) (d : Device) :
    (bootExpires im d).clock = d.clock ∧ (bootExpires im d).pins = d.pins ∧ (bootExpires im d).cfl = d.cfl
    ∧ (bootExpires im d).ciu = d.ciu ∧ (bootExpires im d).ptb = d.ptb ∧ (bootExpires im d).cpl = d.cpl
    ∧ (bootExpires im d).crs = d.crs := by
  unfold bootExpires
  simp only []
  split <;> simp

@[simp] theorem clearCamera_frame (d : Device) :
    (clearCamera d).clock = d.clock ∧ (clearCamera d).pins = d.pins ∧ (clearCamera d).cfl = d.cfl
    ∧ (clearCamera d).ciu = d.ciu ∧ (clearCamera d).ptb = d.ptb ∧ (clearCamera d).crs = d.crs := by
  unfold clearCamera
  split <;> simp

@[simp] theorem reportFlash_frame (id : Byte) (k : Nat) (v : FlashValue) (fired : Bool) (d : Device) :
    (reportFlash id k v fired d).clock = d.clock ∧ (reportFlash id k v fired d).pins = d.pins
    ∧ (reportFlash id k v fired d).cfl = d.cfl ∧ (reportFlash id k v fired d).ciu = d.ciu
    ∧ (reportFlash id k v fired d).ptb = d.ptb ∧ (reportFlash id k v fired d).cpl = d.cpl
    ∧ (reportFlash id k v fired d).crs = d.crs ∧ (reportFlash id k v fired d).cdu = d.cdu
    ∧ (reportFlash id k v fired d).fdu = d.fdu := by
  simp [reportFlash]

@[simp] theorem fireFlash_frame (im : Image) (x : FlashDecision) (d : Device) :
    (fireFlash im x d).clock = d.clock ∧ (fireFlash im x d).pins = d.pins ∧ (fireFlash im x d).cfl = d.cfl
    ∧ (fireFlash im x d).ciu = d.ciu ∧ (fireFlash im x d).liu = d.liu ∧ (fireFlash im x d).fx = d.fx
    ∧ (fireFlash im x d).ptb = d.ptb ∧ (fireFlash im x d).htk = d.htk ∧ (fireFlash im x d).cpl = d.cpl
    ∧ (fireFlash im x d).crs = d.crs ∧ (fireFlash im x d).cdu = d.cdu ∧ (fireFlash im x d).rqs = d.rqs := by
  simp [fireFlash]

@[simp] theorem decideOwnFlash_frame (im : Image) (x : FlashDecision) (d : Device) :
    (decideOwnFlash im x d).clock = d.clock ∧ (decideOwnFlash im x d).pins = d.pins
    ∧ (decideOwnFlash im x d).cfl = d.cfl ∧ (decideOwnFlash im x d).ciu = d.ciu
    ∧ (decideOwnFlash im x d).ptb = d.ptb ∧ (decideOwnFlash im x d).cpl = d.cpl
    ∧ (decideOwnFlash im x d).crs = d.crs ∧ (decideOwnFlash im x d).cdu = d.cdu := by
  unfold decideOwnFlash
  split <;> simp

@[simp] theorem loseCoLit_frame (id : Byte) (d : Device) :
    (loseCoLit id d).clock = d.clock ∧ (loseCoLit id d).pins = d.pins ∧ (loseCoLit id d).cfl = d.cfl
    ∧ (loseCoLit id d).ciu = d.ciu ∧ (loseCoLit id d).liu = d.liu ∧ (loseCoLit id d).fx = d.fx
    ∧ (loseCoLit id d).ptb = d.ptb ∧ (loseCoLit id d).cpl = d.cpl ∧ (loseCoLit id d).crs = d.crs
    ∧ (loseCoLit id d).cdu = d.cdu ∧ (loseCoLit id d).fdu = d.fdu ∧ (loseCoLit id d).rqs = d.rqs := by
  simp [loseCoLit]

@[simp] theorem decideFlash_frame (im : Image) (x : FlashDecision) (d : Device) :
    (decideFlash im x d).clock = d.clock ∧ (decideFlash im x d).pins = d.pins ∧ (decideFlash im x d).cfl = d.cfl
    ∧ (decideFlash im x d).ciu = d.ciu ∧ (decideFlash im x d).ptb = d.ptb ∧ (decideFlash im x d).cpl = d.cpl
    ∧ (decideFlash im x d).crs = d.crs ∧ (decideFlash im x d).cdu = d.cdu := by
  unfold decideFlash
  (repeat' split) <;> simp

@[simp] theorem reportReturn_frame (id : Byte) (k : Nat) (misfired : Bool) (d : Device) :
    (reportReturn id k misfired d).clock = d.clock ∧ (reportReturn id k misfired d).pins = d.pins
    ∧ (reportReturn id k misfired d).cfl = d.cfl ∧ (reportReturn id k misfired d).ciu = d.ciu
    ∧ (reportReturn id k misfired d).ptb = d.ptb ∧ (reportReturn id k misfired d).cpl = d.cpl
    ∧ (reportReturn id k misfired d).crs = d.crs ∧ (reportReturn id k misfired d).cdu = d.cdu
    ∧ (reportReturn id k misfired d).fdu = d.fdu := by
  simp [reportReturn]

@[simp] theorem removeAwaited_frame (a : AwaitedReturn) (d : Device) :
    (removeAwaited a d).clock = d.clock ∧ (removeAwaited a d).pins = d.pins ∧ (removeAwaited a d).cfl = d.cfl
    ∧ (removeAwaited a d).ciu = d.ciu ∧ (removeAwaited a d).liu = d.liu ∧ (removeAwaited a d).fx = d.fx
    ∧ (removeAwaited a d).ptb = d.ptb ∧ (removeAwaited a d).htk = d.htk ∧ (removeAwaited a d).cpl = d.cpl
    ∧ (removeAwaited a d).crs = d.crs ∧ (removeAwaited a d).cdu = d.cdu ∧ (removeAwaited a d).rqs = d.rqs := by
  simp [removeAwaited]

@[simp] theorem takeReturn_frame (d : Device) :
    (takeReturn d).clock = d.clock ∧ (takeReturn d).pins = d.pins ∧ (takeReturn d).cfl = d.cfl
    ∧ (takeReturn d).ciu = d.ciu ∧ (takeReturn d).ptb = d.ptb ∧ (takeReturn d).cpl = d.cpl
    ∧ (takeReturn d).crs = d.crs ∧ (takeReturn d).cdu = d.cdu := by
  simp only [takeReturn]
  (repeat' split) <;> simp

@[simp] theorem misfire_frame (a : AwaitedReturn) (d : Device) :
    (misfire a d).clock = d.clock ∧ (misfire a d).pins = d.pins ∧ (misfire a d).cfl = d.cfl
    ∧ (misfire a d).ciu = d.ciu ∧ (misfire a d).ptb = d.ptb ∧ (misfire a d).cpl = d.cpl
    ∧ (misfire a d).crs = d.crs := by
  simp only [misfire]
  (repeat' split) <;> simp

@[simp] theorem clearFlash_frame (d : Device) :
    (clearFlash d).clock = d.clock ∧ (clearFlash d).pins = d.pins ∧ (clearFlash d).cfl = d.cfl
    ∧ (clearFlash d).ciu = d.ciu ∧ (clearFlash d).ptb = d.ptb ∧ (clearFlash d).cpl = d.cpl
    ∧ (clearFlash d).crs = d.crs := by
  unfold clearFlash
  split <;> simp

/-! ### Association.lean -/

@[simp] theorem repredict_frame (id : Byte) (d : Device) :
    (repredict id d).clock = d.clock ∧ (repredict id d).pins = d.pins ∧ (repredict id d).cfl = d.cfl
    ∧ (repredict id d).ciu = d.ciu ∧ (repredict id d).ptb = d.ptb ∧ (repredict id d).cpl = d.cpl
    ∧ (repredict id d).crs = d.crs := by
  unfold repredict
  (repeat' split) <;> simp

@[simp] theorem trimTrack_frame (id : Byte) (d : Device) :
    (trimTrack id d).clock = d.clock ∧ (trimTrack id d).pins = d.pins ∧ (trimTrack id d).cfl = d.cfl
    ∧ (trimTrack id d).ciu = d.ciu ∧ (trimTrack id d).liu = d.liu ∧ (trimTrack id d).fx = d.fx
    ∧ (trimTrack id d).ptb = d.ptb ∧ (trimTrack id d).crs = d.crs ∧ (trimTrack id d).rqs = d.rqs := by
  unfold trimTrack
  (repeat' split) <;> simp

@[simp] theorem createTrack_frame (im : Image) (tr : Track) (d : Device) :
    (createTrack im tr d).clock = d.clock ∧ (createTrack im tr d).pins = d.pins
    ∧ (createTrack im tr d).cfl = d.cfl ∧ (createTrack im tr d).ciu = d.ciu ∧ (createTrack im tr d).ptb = d.ptb
    ∧ (createTrack im tr d).cpl = d.cpl ∧ (createTrack im tr d).crs = d.crs := by
  simp [createTrack]

@[simp] theorem countTooFar_frame (d : Device) :
    (countTooFar d).clock = d.clock ∧ (countTooFar d).pins = d.pins ∧ (countTooFar d).cfl = d.cfl
    ∧ (countTooFar d).ciu = d.ciu ∧ (countTooFar d).liu = d.liu ∧ (countTooFar d).fx = d.fx
    ∧ (countTooFar d).ptb = d.ptb ∧ (countTooFar d).cpl = d.cpl ∧ (countTooFar d).crs = d.crs
    ∧ (countTooFar d).cdu = d.cdu ∧ (countTooFar d).fdu = d.fdu ∧ (countTooFar d).rqs = d.rqs := by
  simp [countTooFar]

@[simp] theorem newTrack_frame (side : Side) (sightings : List Sighting) (verify : Option VerifyEntry)
    (d : Device) :
    (newTrack side sightings verify d).clock = d.clock ∧ (newTrack side sightings verify d).pins = d.pins
    ∧ (newTrack side sightings verify d).cfl = d.cfl ∧ (newTrack side sightings verify d).ciu = d.ciu
    ∧ (newTrack side sightings verify d).ptb = d.ptb ∧ (newTrack side sightings verify d).cpl = d.cpl
    ∧ (newTrack side sightings verify d).crs = d.crs := by
  simp only [newTrack]
  (repeat' split) <;> simp

@[simp] theorem takeSighting_frame (s : Sighting) (d : Device) :
    (takeSighting s d).clock = d.clock ∧ (takeSighting s d).pins = d.pins ∧ (takeSighting s d).cfl = d.cfl
    ∧ (takeSighting s d).ciu = d.ciu ∧ (takeSighting s d).ptb = d.ptb ∧ (takeSighting s d).cpl = d.cpl
    ∧ (takeSighting s d).crs = d.crs := by
  unfold takeSighting
  (repeat' split) <;> simp

@[simp] theorem takeVerify_frame (track : Nat) (side : Side) (e : VerifyEntry) (d : Device) :
    (takeVerify track side e d).clock = d.clock ∧ (takeVerify track side e d).pins = d.pins
    ∧ (takeVerify track side e d).cfl = d.cfl ∧ (takeVerify track side e d).ciu = d.ciu
    ∧ (takeVerify track side e d).ptb = d.ptb ∧ (takeVerify track side e d).crs = d.crs := by
  unfold takeVerify
  (repeat' split) <;> simp

/-! ### Curtains.lean -/

@[simp] theorem modifyBeam_frame (c : Fin 4) (i : Fin 8) (f : Beam → Beam) (d : Device) :
    (modifyBeam c i f d).clock = d.clock ∧ (modifyBeam c i f d).pins = d.pins ∧ (modifyBeam c i f d).cfl = d.cfl
    ∧ (modifyBeam c i f d).liu = d.liu ∧ (modifyBeam c i f d).fx = d.fx ∧ (modifyBeam c i f d).ptb = d.ptb
    ∧ (modifyBeam c i f d).htk = d.htk ∧ (modifyBeam c i f d).cpl = d.cpl ∧ (modifyBeam c i f d).crs = d.crs
    ∧ (modifyBeam c i f d).cdu = d.cdu ∧ (modifyBeam c i f d).fdu = d.fdu ∧ (modifyBeam c i f d).rqs = d.rqs := by
  simp [modifyBeam]

@[simp] theorem emitApproaching_frame (p : Fin 2) (pc : PairConfig) (t1 t2 : Time) (v : Nat × Bool)
    (band : Option (Nat × Nat) × Bool) (seq : Byte) (forced : Bool) (d : Device) :
    (emitApproaching p pc t1 t2 v band seq forced d).clock = d.clock
    ∧ (emitApproaching p pc t1 t2 v band seq forced d).pins = d.pins
    ∧ (emitApproaching p pc t1 t2 v band seq forced d).cfl = d.cfl
    ∧ (emitApproaching p pc t1 t2 v band seq forced d).ciu = d.ciu
    ∧ (emitApproaching p pc t1 t2 v band seq forced d).ptb = d.ptb
    ∧ (emitApproaching p pc t1 t2 v band seq forced d).crs = d.crs := by
  unfold emitApproaching
  split <;> simp

@[simp] theorem emitDeparting_frame (p : Fin 2) (t1 t2 : Time) (v : Nat × Bool) (forced : Bool) (d : Device) :
    (emitDeparting p t1 t2 v forced d).clock = d.clock ∧ (emitDeparting p t1 t2 v forced d).pins = d.pins
    ∧ (emitDeparting p t1 t2 v forced d).cfl = d.cfl ∧ (emitDeparting p t1 t2 v forced d).ciu = d.ciu
    ∧ (emitDeparting p t1 t2 v forced d).liu = d.liu ∧ (emitDeparting p t1 t2 v forced d).fx = d.fx
    ∧ (emitDeparting p t1 t2 v forced d).ptb = d.ptb ∧ (emitDeparting p t1 t2 v forced d).htk = d.htk
    ∧ (emitDeparting p t1 t2 v forced d).cpl = d.cpl ∧ (emitDeparting p t1 t2 v forced d).crs = d.crs
    ∧ (emitDeparting p t1 t2 v forced d).cdu = d.cdu ∧ (emitDeparting p t1 t2 v forced d).fdu = d.fdu := by
  unfold emitDeparting
  split <;> simp

@[simp] theorem emitOrphan_frame (p : Fin 2) (t1 : Time) (forced : Bool) (d : Device) :
    (emitOrphan p t1 forced d).clock = d.clock ∧ (emitOrphan p t1 forced d).pins = d.pins
    ∧ (emitOrphan p t1 forced d).cfl = d.cfl ∧ (emitOrphan p t1 forced d).ciu = d.ciu
    ∧ (emitOrphan p t1 forced d).liu = d.liu ∧ (emitOrphan p t1 forced d).fx = d.fx
    ∧ (emitOrphan p t1 forced d).ptb = d.ptb ∧ (emitOrphan p t1 forced d).htk = d.htk
    ∧ (emitOrphan p t1 forced d).cpl = d.cpl ∧ (emitOrphan p t1 forced d).crs = d.crs
    ∧ (emitOrphan p t1 forced d).cdu = d.cdu ∧ (emitOrphan p t1 forced d).fdu = d.fdu := by
  unfold emitOrphan
  split <;> simp

@[simp] theorem modifySequencer_frame (p : Fin 2) (f : Sequencer → Sequencer) (d : Device) :
    (modifySequencer p f d).clock = d.clock ∧ (modifySequencer p f d).pins = d.pins
    ∧ (modifySequencer p f d).cfl = d.cfl ∧ (modifySequencer p f d).liu = d.liu
    ∧ (modifySequencer p f d).fx = d.fx ∧ (modifySequencer p f d).ptb = d.ptb
    ∧ (modifySequencer p f d).htk = d.htk ∧ (modifySequencer p f d).cpl = d.cpl
    ∧ (modifySequencer p f d).crs = d.crs ∧ (modifySequencer p f d).cdu = d.cdu
    ∧ (modifySequencer p f d).fdu = d.fdu ∧ (modifySequencer p f d).rqs = d.rqs := by
  simp [modifySequencer]

@[simp] theorem enterSequence_frame (p : Fin 2) (pc : PairConfig) (state : SequencerState) (t1 : Time)
    (d : Device) :
    (enterSequence p pc state t1 d).clock = d.clock ∧ (enterSequence p pc state t1 d).pins = d.pins
    ∧ (enterSequence p pc state t1 d).cfl = d.cfl ∧ (enterSequence p pc state t1 d).liu = d.liu
    ∧ (enterSequence p pc state t1 d).fx = d.fx ∧ (enterSequence p pc state t1 d).ptb = d.ptb
    ∧ (enterSequence p pc state t1 d).htk = d.htk ∧ (enterSequence p pc state t1 d).cpl = d.cpl
    ∧ (enterSequence p pc state t1 d).crs = d.crs ∧ (enterSequence p pc state t1 d).cdu = d.cdu
    ∧ (enterSequence p pc state t1 d).fdu = d.fdu ∧ (enterSequence p pc state t1 d).rqs = d.rqs := by
  simp [enterSequence]

@[simp] theorem orphanInHand_frame (p : Fin 2) (d : Device) :
    (orphanInHand p d).clock = d.clock ∧ (orphanInHand p d).pins = d.pins ∧ (orphanInHand p d).cfl = d.cfl
    ∧ (orphanInHand p d).ciu = d.ciu ∧ (orphanInHand p d).liu = d.liu ∧ (orphanInHand p d).fx = d.fx
    ∧ (orphanInHand p d).ptb = d.ptb ∧ (orphanInHand p d).htk = d.htk ∧ (orphanInHand p d).cpl = d.cpl
    ∧ (orphanInHand p d).crs = d.crs ∧ (orphanInHand p d).cdu = d.cdu ∧ (orphanInHand p d).fdu = d.fdu := by
  unfold orphanInHand
  split <;> simp

@[simp] theorem orphanExpires_frame (p : Fin 2) (d : Device) :
    (orphanExpires p d).clock = d.clock ∧ (orphanExpires p d).pins = d.pins ∧ (orphanExpires p d).cfl = d.cfl
    ∧ (orphanExpires p d).liu = d.liu ∧ (orphanExpires p d).fx = d.fx ∧ (orphanExpires p d).ptb = d.ptb
    ∧ (orphanExpires p d).htk = d.htk ∧ (orphanExpires p d).cpl = d.cpl ∧ (orphanExpires p d).crs = d.crs
    ∧ (orphanExpires p d).cdu = d.cdu ∧ (orphanExpires p d).fdu = d.fdu := by
  unfold orphanExpires
  (repeat' split) <;> simp

@[simp] theorem outerBreak_frame (p : Fin 2) (pc : PairConfig) (t : Time) (d : Device) :
    (outerBreak p pc t d).clock = d.clock ∧ (outerBreak p pc t d).pins = d.pins
    ∧ (outerBreak p pc t d).cfl = d.cfl ∧ (outerBreak p pc t d).liu = d.liu ∧ (outerBreak p pc t d).fx = d.fx
    ∧ (outerBreak p pc t d).ptb = d.ptb ∧ (outerBreak p pc t d).htk = d.htk ∧ (outerBreak p pc t d).cpl = d.cpl
    ∧ (outerBreak p pc t d).crs = d.crs ∧ (outerBreak p pc t d).cdu = d.cdu ∧ (outerBreak p pc t d).fdu = d.fdu := by
  unfold outerBreak
  (repeat' split) <;> simp

@[simp] theorem innerBreak_frame (p : Fin 2) (pc : PairConfig) (t : Time) (d : Device) :
    (innerBreak p pc t d).clock = d.clock ∧ (innerBreak p pc t d).pins = d.pins
    ∧ (innerBreak p pc t d).cfl = d.cfl ∧ (innerBreak p pc t d).liu = d.liu ∧ (innerBreak p pc t d).fx = d.fx
    ∧ (innerBreak p pc t d).ptb = d.ptb ∧ (innerBreak p pc t d).htk = d.htk ∧ (innerBreak p pc t d).cpl = d.cpl
    ∧ (innerBreak p pc t d).crs = d.crs ∧ (innerBreak p pc t d).cdu = d.cdu ∧ (innerBreak p pc t d).fdu = d.fdu
    ∧ (innerBreak p pc t d).rqs = d.rqs := by
  unfold innerBreak
  (repeat' split) <;> simp

@[simp] theorem outerEnd_frame (p : Fin 2) (pc : PairConfig) (d : Device) :
    (outerEnd p pc d).clock = d.clock ∧ (outerEnd p pc d).pins = d.pins ∧ (outerEnd p pc d).cfl = d.cfl
    ∧ (outerEnd p pc d).liu = d.liu ∧ (outerEnd p pc d).fx = d.fx ∧ (outerEnd p pc d).ptb = d.ptb
    ∧ (outerEnd p pc d).htk = d.htk ∧ (outerEnd p pc d).cpl = d.cpl ∧ (outerEnd p pc d).crs = d.crs
    ∧ (outerEnd p pc d).cdu = d.cdu ∧ (outerEnd p pc d).fdu = d.fdu := by
  unfold outerEnd
  simp only []
  split <;> simp

@[simp] theorem afterPassage_frame (p : Fin 2) (pc : PairConfig) (pendingOuter : Option Time) (d : Device) :
    (afterPassage p pc pendingOuter d).clock = d.clock ∧ (afterPassage p pc pendingOuter d).pins = d.pins
    ∧ (afterPassage p pc pendingOuter d).cfl = d.cfl ∧ (afterPassage p pc pendingOuter d).liu = d.liu
    ∧ (afterPassage p pc pendingOuter d).fx = d.fx ∧ (afterPassage p pc pendingOuter d).ptb = d.ptb
    ∧ (afterPassage p pc pendingOuter d).htk = d.htk ∧ (afterPassage p pc pendingOuter d).cpl = d.cpl
    ∧ (afterPassage p pc pendingOuter d).crs = d.crs ∧ (afterPassage p pc pendingOuter d).cdu = d.cdu
    ∧ (afterPassage p pc pendingOuter d).fdu = d.fdu := by
  simp only [afterPassage]
  (repeat' split) <;> simp

@[simp] theorem innerEnd_frame (p : Fin 2) (pc : PairConfig) (beams masked : Byte) (d : Device) :
    (innerEnd p pc beams masked d).clock = d.clock ∧ (innerEnd p pc beams masked d).pins = d.pins
    ∧ (innerEnd p pc beams masked d).cfl = d.cfl ∧ (innerEnd p pc beams masked d).ptb = d.ptb
    ∧ (innerEnd p pc beams masked d).crs = d.crs := by
  unfold innerEnd
  simp only []
  split <;> simp

@[simp] theorem breakIgnored_frame (c : Fin 4) (d : Device) :
    (breakIgnored c d).clock = d.clock ∧ (breakIgnored c d).pins = d.pins ∧ (breakIgnored c d).cfl = d.cfl
    ∧ (breakIgnored c d).liu = d.liu ∧ (breakIgnored c d).fx = d.fx ∧ (breakIgnored c d).ptb = d.ptb
    ∧ (breakIgnored c d).htk = d.htk ∧ (breakIgnored c d).cpl = d.cpl ∧ (breakIgnored c d).crs = d.crs
    ∧ (breakIgnored c d).cdu = d.cdu ∧ (breakIgnored c d).fdu = d.fdu := by
  simp only [breakIgnored]
  (repeat' split) <;> simp

@[simp] theorem judgeDead_frame (c : Fin 4) (minBeams : Nat) (d : Device) :
    (judgeDead c minBeams d).clock = d.clock ∧ (judgeDead c minBeams d).pins = d.pins
    ∧ (judgeDead c minBeams d).cfl = d.cfl ∧ (judgeDead c minBeams d).liu = d.liu
    ∧ (judgeDead c minBeams d).fx = d.fx ∧ (judgeDead c minBeams d).ptb = d.ptb
    ∧ (judgeDead c minBeams d).htk = d.htk ∧ (judgeDead c minBeams d).cpl = d.cpl
    ∧ (judgeDead c minBeams d).crs = d.crs ∧ (judgeDead c minBeams d).cdu = d.cdu
    ∧ (judgeDead c minBeams d).fdu = d.fdu := by
  unfold judgeDead
  simp only []
  split <;> simp

@[simp] theorem judgeBreak_frame (c : Fin 4) (pc : PairConfig) (d : Device) :
    (judgeBreak c pc d).clock = d.clock ∧ (judgeBreak c pc d).pins = d.pins ∧ (judgeBreak c pc d).cfl = d.cfl
    ∧ (judgeBreak c pc d).ptb = d.ptb ∧ (judgeBreak c pc d).crs = d.crs := by
  simp only [judgeBreak]
  (repeat' split) <;> simp

@[simp] theorem curtainChanged_frame (c : Fin 4) (d : Device) :
    (curtainChanged c d).clock = d.clock ∧ (curtainChanged c d).pins = d.pins ∧ (curtainChanged c d).cfl = d.cfl
    ∧ (curtainChanged c d).ptb = d.ptb ∧ (curtainChanged c d).crs = d.crs := by
  unfold curtainChanged
  split <;> simp

@[simp] theorem rawChange_frame (c : Fin 4) (i : Fin 8) (level : Bool) (d : Device) :
    (rawChange c i level d).clock = d.clock ∧ (rawChange c i level d).pins = d.pins
    ∧ (rawChange c i level d).cfl = d.cfl ∧ (rawChange c i level d).ptb = d.ptb
    ∧ (rawChange c i level d).crs = d.crs := by
  simp only [rawChange]
  (repeat' split) <;> simp

@[simp] theorem stuckExpires_frame (c : Fin 4) (i : Fin 8) (d : Device) :
    (stuckExpires c i d).clock = d.clock ∧ (stuckExpires c i d).pins = d.pins ∧ (stuckExpires c i d).cfl = d.cfl
    ∧ (stuckExpires c i d).ptb = d.ptb ∧ (stuckExpires c i d).crs = d.crs := by
  unfold stuckExpires
  split <;> simp

@[simp] theorem unmaskExpires_frame (c : Fin 4) (i : Fin 8) (d : Device) :
    (unmaskExpires c i d).clock = d.clock ∧ (unmaskExpires c i d).pins = d.pins
    ∧ (unmaskExpires c i d).cfl = d.cfl ∧ (unmaskExpires c i d).ptb = d.ptb ∧ (unmaskExpires c i d).crs = d.crs := by
  unfold unmaskExpires
  split <;> simp

@[simp] theorem validationExpires_frame (c : Fin 4) (d : Device) :
    (validationExpires c d).clock = d.clock ∧ (validationExpires c d).pins = d.pins
    ∧ (validationExpires c d).cfl = d.cfl ∧ (validationExpires c d).liu = d.liu
    ∧ (validationExpires c d).fx = d.fx ∧ (validationExpires c d).ptb = d.ptb
    ∧ (validationExpires c d).htk = d.htk ∧ (validationExpires c d).cpl = d.cpl
    ∧ (validationExpires c d).crs = d.crs ∧ (validationExpires c d).cdu = d.cdu
    ∧ (validationExpires c d).fdu = d.fdu := by
  simp only [validationExpires]
  (repeat' split) <;> simp

@[simp] theorem forceCurtain_frame (c : Fin 4) (mask pattern : Byte) (d : Device) :
    (forceCurtain c mask pattern d).clock = d.clock ∧ (forceCurtain c mask pattern d).pins = d.pins
    ∧ (forceCurtain c mask pattern d).cfl = d.cfl ∧ (forceCurtain c mask pattern d).ptb = d.ptb
    ∧ (forceCurtain c mask pattern d).crs = d.crs := by
  unfold forceCurtain
  simp only []
  split <;> simp

@[simp] theorem evaluateCurtain_frame (c : Fin 4) (d : Device) :
    (evaluateCurtain c d).clock = d.clock ∧ (evaluateCurtain c d).pins = d.pins
    ∧ (evaluateCurtain c d).cfl = d.cfl ∧ (evaluateCurtain c d).ptb = d.ptb ∧ (evaluateCurtain c d).crs = d.crs := by
  unfold evaluateCurtain
  split <;> simp

@[simp] theorem startEvaluation_frame (d : Device) :
    (startEvaluation d).clock = d.clock ∧ (startEvaluation d).pins = d.pins ∧ (startEvaluation d).cfl = d.cfl
    ∧ (startEvaluation d).ptb = d.ptb ∧ (startEvaluation d).crs = d.crs := by
  simp [startEvaluation]

/-! ### Peers.lean -/

@[simp] theorem takePresence_frame (p : Nat) (f : PresenceFrame) (mark : Time) (d : Device) :
    (takePresence p f mark d).clock = d.clock ∧ (takePresence p f mark d).pins = d.pins
    ∧ (takePresence p f mark d).cfl = d.cfl ∧ (takePresence p f mark d).ciu = d.ciu
    ∧ (takePresence p f mark d).liu = d.liu ∧ (takePresence p f mark d).fx = d.fx
    ∧ (takePresence p f mark d).htk = d.htk ∧ (takePresence p f mark d).cpl = d.cpl
    ∧ (takePresence p f mark d).crs = d.crs ∧ (takePresence p f mark d).cdu = d.cdu
    ∧ (takePresence p f mark d).fdu = d.fdu := by
  unfold takePresence
  split <;> simp

@[simp] theorem staleExpires_frame (p : Nat) (d : Device) :
    (staleExpires p d).clock = d.clock ∧ (staleExpires p d).pins = d.pins ∧ (staleExpires p d).cfl = d.cfl
    ∧ (staleExpires p d).ciu = d.ciu ∧ (staleExpires p d).liu = d.liu ∧ (staleExpires p d).fx = d.fx
    ∧ (staleExpires p d).htk = d.htk ∧ (staleExpires p d).cpl = d.cpl ∧ (staleExpires p d).crs = d.crs
    ∧ (staleExpires p d).cdu = d.cdu ∧ (staleExpires p d).fdu = d.fdu ∧ (staleExpires p d).rqs = d.rqs := by
  unfold staleExpires
  split <;> simp

@[simp] theorem lostExpires_frame (p : Nat) (d : Device) :
    (lostExpires p d).clock = d.clock ∧ (lostExpires p d).pins = d.pins ∧ (lostExpires p d).cfl = d.cfl
    ∧ (lostExpires p d).ciu = d.ciu ∧ (lostExpires p d).liu = d.liu ∧ (lostExpires p d).fx = d.fx
    ∧ (lostExpires p d).htk = d.htk ∧ (lostExpires p d).cpl = d.cpl ∧ (lostExpires p d).crs = d.crs
    ∧ (lostExpires p d).cdu = d.cdu ∧ (lostExpires p d).fdu = d.fdu := by
  unfold lostExpires
  split <;> simp

@[simp] theorem fixVerifySides_frame (im : Image) (d : Device) :
    (fixVerifySides im d).clock = d.clock ∧ (fixVerifySides im d).pins = d.pins
    ∧ (fixVerifySides im d).cfl = d.cfl ∧ (fixVerifySides im d).ciu = d.ciu ∧ (fixVerifySides im d).liu = d.liu
    ∧ (fixVerifySides im d).fx = d.fx ∧ (fixVerifySides im d).htk = d.htk ∧ (fixVerifySides im d).cpl = d.cpl
    ∧ (fixVerifySides im d).crs = d.crs ∧ (fixVerifySides im d).cdu = d.cdu ∧ (fixVerifySides im d).fdu = d.fdu
    ∧ (fixVerifySides im d).rqs = d.rqs := by
  unfold fixVerifySides
  split <;> simp

/-! ### Line.lean -/

@[simp] theorem beginBusy_frame (d : Device) :
    (beginBusy d).clock = d.clock ∧ (beginBusy d).pins = d.pins ∧ (beginBusy d).cfl = d.cfl
    ∧ (beginBusy d).ciu = d.ciu ∧ (beginBusy d).fx = d.fx ∧ (beginBusy d).ptb = d.ptb
    ∧ (beginBusy d).htk = d.htk ∧ (beginBusy d).cpl = d.cpl ∧ (beginBusy d).crs = d.crs
    ∧ (beginBusy d).cdu = d.cdu ∧ (beginBusy d).fdu = d.fdu ∧ (beginBusy d).rqs = d.rqs := by
  simp [beginBusy]

@[simp] theorem lineActive_frame (d : Device) :
    (lineActive d).clock = d.clock ∧ (lineActive d).pins = d.pins ∧ (lineActive d).cfl = d.cfl
    ∧ (lineActive d).ciu = d.ciu ∧ (lineActive d).fx = d.fx ∧ (lineActive d).ptb = d.ptb
    ∧ (lineActive d).htk = d.htk ∧ (lineActive d).cpl = d.cpl ∧ (lineActive d).crs = d.crs
    ∧ (lineActive d).cdu = d.cdu ∧ (lineActive d).fdu = d.fdu ∧ (lineActive d).rqs = d.rqs := by
  simp only [lineActive]
  (repeat' split) <;> simp

@[simp] theorem takeTransition_frame (p : LinePair) (heard : List LineSymbol) (d : Device) :
    (takeTransition p heard d).clock = d.clock ∧ (takeTransition p heard d).pins = d.pins
    ∧ (takeTransition p heard d).cfl = d.cfl ∧ (takeTransition p heard d).ciu = d.ciu
    ∧ (takeTransition p heard d).fx = d.fx ∧ (takeTransition p heard d).ptb = d.ptb
    ∧ (takeTransition p heard d).htk = d.htk ∧ (takeTransition p heard d).cpl = d.cpl
    ∧ (takeTransition p heard d).crs = d.crs ∧ (takeTransition p heard d).cdu = d.cdu
    ∧ (takeTransition p heard d).fdu = d.fdu ∧ (takeTransition p heard d).rqs = d.rqs := by
  simp only [takeTransition]
  (repeat' split) <;> simp

@[simp] theorem takeQuiet_frame (p : LinePair) (d : Device) :
    (takeQuiet p d).clock = d.clock ∧ (takeQuiet p d).pins = d.pins ∧ (takeQuiet p d).cfl = d.cfl
    ∧ (takeQuiet p d).ciu = d.ciu ∧ (takeQuiet p d).fx = d.fx ∧ (takeQuiet p d).ptb = d.ptb
    ∧ (takeQuiet p d).htk = d.htk ∧ (takeQuiet p d).cpl = d.cpl ∧ (takeQuiet p d).crs = d.crs
    ∧ (takeQuiet p d).cdu = d.cdu ∧ (takeQuiet p d).fdu = d.fdu ∧ (takeQuiet p d).rqs = d.rqs := by
  unfold takeQuiet
  split <;> simp

@[simp] theorem judgePreference_frame (d : Device) :
    (judgePreference d).clock = d.clock ∧ (judgePreference d).pins = d.pins ∧ (judgePreference d).cfl = d.cfl
    ∧ (judgePreference d).ciu = d.ciu ∧ (judgePreference d).fx = d.fx ∧ (judgePreference d).ptb = d.ptb
    ∧ (judgePreference d).htk = d.htk ∧ (judgePreference d).cpl = d.cpl ∧ (judgePreference d).crs = d.crs
    ∧ (judgePreference d).cdu = d.cdu ∧ (judgePreference d).fdu = d.fdu := by
  unfold judgePreference
  simp only []
  split <;> simp

@[simp] theorem updateQuality_frame (a b : Judgement) (d : Device) :
    (updateQuality a b d).clock = d.clock ∧ (updateQuality a b d).pins = d.pins
    ∧ (updateQuality a b d).cfl = d.cfl ∧ (updateQuality a b d).ciu = d.ciu ∧ (updateQuality a b d).fx = d.fx
    ∧ (updateQuality a b d).ptb = d.ptb ∧ (updateQuality a b d).htk = d.htk ∧ (updateQuality a b d).cpl = d.cpl
    ∧ (updateQuality a b d).crs = d.crs ∧ (updateQuality a b d).cdu = d.cdu ∧ (updateQuality a b d).fdu = d.fdu
    ∧ (updateQuality a b d).rqs = d.rqs := by
  simp [updateQuality]

@[simp] theorem handOn_frame (station : Nat) (mark : Time) (frame : ReceivedFrame) (d : Device) :
    (handOn station mark frame d).clock = d.clock ∧ (handOn station mark frame d).pins = d.pins
    ∧ (handOn station mark frame d).cfl = d.cfl ∧ (handOn station mark frame d).ciu = d.ciu
    ∧ (handOn station mark frame d).cpl = d.cpl := by
  unfold handOn
  (repeat' split) <;> simp

@[simp] theorem handOnOwn_frame (mark : Time) (frame : ReceivedFrame) (d : Device) :
    (handOnOwn mark frame d).clock = d.clock ∧ (handOnOwn mark frame d).pins = d.pins
    ∧ (handOnOwn mark frame d).cfl = d.cfl ∧ (handOnOwn mark frame d).ciu = d.ciu
    ∧ (handOnOwn mark frame d).liu = d.liu ∧ (handOnOwn mark frame d).fx = d.fx
    ∧ (handOnOwn mark frame d).ptb = d.ptb ∧ (handOnOwn mark frame d).cpl = d.cpl
    ∧ (handOnOwn mark frame d).crs = d.crs ∧ (handOnOwn mark frame d).cdu = d.cdu
    ∧ (handOnOwn mark frame d).fdu = d.fdu ∧ (handOnOwn mark frame d).rqs = d.rqs := by
  unfold handOnOwn
  split <;> simp

@[simp] theorem silenceTransmitter_frame (d : Device) :
    (silenceTransmitter d).clock = d.clock ∧ (silenceTransmitter d).pins = d.pins
    ∧ (silenceTransmitter d).cfl = d.cfl ∧ (silenceTransmitter d).ciu = d.ciu ∧ (silenceTransmitter d).fx = d.fx
    ∧ (silenceTransmitter d).ptb = d.ptb ∧ (silenceTransmitter d).htk = d.htk
    ∧ (silenceTransmitter d).cpl = d.cpl ∧ (silenceTransmitter d).crs = d.crs
    ∧ (silenceTransmitter d).cdu = d.cdu ∧ (silenceTransmitter d).fdu = d.fdu
    ∧ (silenceTransmitter d).rqs = d.rqs := by
  simp [silenceTransmitter]

@[simp] theorem enterSilent_frame (d : Device) :
    (enterSilent d).clock = d.clock ∧ (enterSilent d).pins = d.pins ∧ (enterSilent d).ciu = d.ciu
    ∧ (enterSilent d).ptb = d.ptb ∧ (enterSilent d).cpl = d.cpl ∧ (enterSilent d).crs = d.crs := by
  simp [enterSilent]

@[simp] theorem takeClash_frame (d : Device) :
    (takeClash d).clock = d.clock ∧ (takeClash d).pins = d.pins ∧ (takeClash d).ciu = d.ciu
    ∧ (takeClash d).ptb = d.ptb ∧ (takeClash d).cpl = d.cpl ∧ (takeClash d).crs = d.crs := by
  unfold takeClash
  split <;> simp

@[simp] theorem dispatchFrame_frame (mark : Time) (body : List Byte) (d : Device) :
    (dispatchFrame mark body d).clock = d.clock ∧ (dispatchFrame mark body d).pins = d.pins
    ∧ (dispatchFrame mark body d).ciu = d.ciu ∧ (dispatchFrame mark body d).cpl = d.cpl := by
  unfold dispatchFrame
  (repeat' split) <;> simp

@[simp] theorem takeIdle_frame (d : Device) :
    (takeIdle d).clock = d.clock ∧ (takeIdle d).pins = d.pins ∧ (takeIdle d).cfl = d.cfl
    ∧ (takeIdle d).ciu = d.ciu ∧ (takeIdle d).fx = d.fx ∧ (takeIdle d).ptb = d.ptb ∧ (takeIdle d).htk = d.htk
    ∧ (takeIdle d).cpl = d.cpl ∧ (takeIdle d).crs = d.crs ∧ (takeIdle d).cdu = d.cdu ∧ (takeIdle d).fdu = d.fdu
    ∧ (takeIdle d).rqs = d.rqs := by
  unfold takeIdle
  simp only []
  split <;> simp

@[simp] theorem idleInstant_frame (d : Device) :
    (idleInstant d).clock = d.clock ∧ (idleInstant d).pins = d.pins ∧ (idleInstant d).ciu = d.ciu
    ∧ (idleInstant d).cpl = d.cpl := by
  unfold idleInstant
  simp only []
  split <;> simp

@[simp] theorem takeJabber_frame (p : LinePair) (d : Device) :
    (takeJabber p d).clock = d.clock ∧ (takeJabber p d).pins = d.pins ∧ (takeJabber p d).ciu = d.ciu
    ∧ (takeJabber p d).cpl = d.cpl := by
  unfold takeJabber
  simp only []
  (repeat' split) <;> simp

@[simp] theorem quietExpires_frame (d : Device) :
    (quietExpires d).clock = d.clock ∧ (quietExpires d).pins = d.pins ∧ (quietExpires d).ciu = d.ciu
    ∧ (quietExpires d).cpl = d.cpl := by
  unfold quietExpires
  split <;> simp

@[simp] theorem startFrame_frame (e : QueueEntry) (body : List Byte) (d : Device) :
    (startFrame e body d).clock = d.clock ∧ (startFrame e body d).pins = d.pins
    ∧ (startFrame e body d).cfl = d.cfl ∧ (startFrame e body d).ciu = d.ciu ∧ (startFrame e body d).ptb = d.ptb
    ∧ (startFrame e body d).htk = d.htk ∧ (startFrame e body d).cpl = d.cpl ∧ (startFrame e body d).crs = d.crs
    ∧ (startFrame e body d).cdu = d.cdu ∧ (startFrame e body d).fdu = d.fdu ∧ (startFrame e body d).rqs = d.rqs := by
  simp [startFrame]

/-- Asking for the head at a slot end touches the queue, the transmitter and what drop reports reach. -/
@[simp] theorem offerHead_frame (n : Nat) (d : Device) :
    (offerHead n d).clock = d.clock ∧ (offerHead n d).pins = d.pins ∧ (offerHead n d).cfl = d.cfl
    ∧ (offerHead n d).ciu = d.ciu ∧ (offerHead n d).ptb = d.ptb ∧ (offerHead n d).cpl = d.cpl
    ∧ (offerHead n d).crs = d.crs := by
  induction n generalizing d with
  | zero => simp [offerHead]
  | succ n ih =>
    unfold offerHead
    (repeat' split) <;> simp [ih]

@[simp] theorem takeSlotEnd_frame (d : Device) :
    (takeSlotEnd d).clock = d.clock ∧ (takeSlotEnd d).pins = d.pins ∧ (takeSlotEnd d).cfl = d.cfl
    ∧ (takeSlotEnd d).ciu = d.ciu ∧ (takeSlotEnd d).ptb = d.ptb ∧ (takeSlotEnd d).cpl = d.cpl
    ∧ (takeSlotEnd d).crs = d.crs := by
  unfold takeSlotEnd
  split <;> simp

@[simp] theorem expireEntry_frame (e : QueueEntry) (d : Device) :
    (expireEntry e d).clock = d.clock ∧ (expireEntry e d).pins = d.pins ∧ (expireEntry e d).cfl = d.cfl
    ∧ (expireEntry e d).ciu = d.ciu ∧ (expireEntry e d).ptb = d.ptb ∧ (expireEntry e d).cpl = d.cpl
    ∧ (expireEntry e d).crs = d.crs := by
  simp [expireEntry]

@[simp] theorem entryExpires_frame (order : Nat) (d : Device) :
    (entryExpires order d).clock = d.clock ∧ (entryExpires order d).pins = d.pins
    ∧ (entryExpires order d).cfl = d.cfl ∧ (entryExpires order d).ciu = d.ciu
    ∧ (entryExpires order d).ptb = d.ptb ∧ (entryExpires order d).cpl = d.cpl
    ∧ (entryExpires order d).crs = d.crs := by
  unfold entryExpires
  (repeat' split) <;> simp

@[simp] theorem collisionOutcome_frame (order : Nat) (d : Device) :
    (collisionOutcome order d).clock = d.clock ∧ (collisionOutcome order d).pins = d.pins
    ∧ (collisionOutcome order d).cfl = d.cfl ∧ (collisionOutcome order d).ciu = d.ciu
    ∧ (collisionOutcome order d).ptb = d.ptb ∧ (collisionOutcome order d).cpl = d.cpl
    ∧ (collisionOutcome order d).crs = d.crs := by
  unfold collisionOutcome
  (repeat' split) <;> simp

@[simp] theorem cutFrame_frame (order : Nat) (d : Device) :
    (cutFrame order d).clock = d.clock ∧ (cutFrame order d).pins = d.pins ∧ (cutFrame order d).cfl = d.cfl
    ∧ (cutFrame order d).ciu = d.ciu ∧ (cutFrame order d).fx = d.fx ∧ (cutFrame order d).ptb = d.ptb
    ∧ (cutFrame order d).htk = d.htk ∧ (cutFrame order d).cpl = d.cpl ∧ (cutFrame order d).crs = d.crs
    ∧ (cutFrame order d).cdu = d.cdu ∧ (cutFrame order d).fdu = d.fdu ∧ (cutFrame order d).rqs = d.rqs := by
  simp [cutFrame]

@[simp] theorem giveUp_frame (order : Nat) (d : Device) :
    (giveUp order d).clock = d.clock ∧ (giveUp order d).pins = d.pins ∧ (giveUp order d).cfl = d.cfl
    ∧ (giveUp order d).ciu = d.ciu ∧ (giveUp order d).ptb = d.ptb ∧ (giveUp order d).cpl = d.cpl
    ∧ (giveUp order d).crs = d.crs := by
  unfold giveUp
  split <;> simp

@[simp] theorem takeCollision_frame (d : Device) :
    (takeCollision d).clock = d.clock ∧ (takeCollision d).pins = d.pins ∧ (takeCollision d).cfl = d.cfl
    ∧ (takeCollision d).ciu = d.ciu ∧ (takeCollision d).ptb = d.ptb ∧ (takeCollision d).cpl = d.cpl
    ∧ (takeCollision d).crs = d.crs := by
  simp only [takeCollision]
  (repeat' split) <;> simp

@[simp] theorem takeMismatch_frame (p : LinePair) (d : Device) :
    (takeMismatch p d).clock = d.clock ∧ (takeMismatch p d).pins = d.pins ∧ (takeMismatch p d).cfl = d.cfl
    ∧ (takeMismatch p d).ciu = d.ciu ∧ (takeMismatch p d).ptb = d.ptb ∧ (takeMismatch p d).cpl = d.cpl
    ∧ (takeMismatch p d).crs = d.crs := by
  unfold takeMismatch
  (repeat' split) <;> simp

@[simp] theorem takeSent_frame (d : Device) :
    (takeSent d).clock = d.clock ∧ (takeSent d).pins = d.pins ∧ (takeSent d).cfl = d.cfl
    ∧ (takeSent d).ciu = d.ciu ∧ (takeSent d).ptb = d.ptb ∧ (takeSent d).htk = d.htk ∧ (takeSent d).cpl = d.cpl
    ∧ (takeSent d).crs = d.crs ∧ (takeSent d).cdu = d.cdu ∧ (takeSent d).fdu = d.fdu ∧ (takeSent d).rqs = d.rqs := by
  unfold takeSent
  (repeat' split) <;> simp

@[simp] theorem presenceExpires_frame (d : Device) :
    (presenceExpires d).clock = d.clock ∧ (presenceExpires d).pins = d.pins ∧ (presenceExpires d).cfl = d.cfl
    ∧ (presenceExpires d).ciu = d.ciu ∧ (presenceExpires d).ptb = d.ptb ∧ (presenceExpires d).htk = d.htk
    ∧ (presenceExpires d).cpl = d.cpl ∧ (presenceExpires d).crs = d.crs ∧ (presenceExpires d).cdu = d.cdu
    ∧ (presenceExpires d).fdu = d.fdu ∧ (presenceExpires d).rqs = d.rqs := by
  unfold presenceExpires
  split <;> simp

@[simp] theorem startWatching_frame (d : Device) :
    (startWatching d).clock = d.clock ∧ (startWatching d).pins = d.pins ∧ (startWatching d).cfl = d.cfl
    ∧ (startWatching d).ciu = d.ciu ∧ (startWatching d).fx = d.fx ∧ (startWatching d).ptb = d.ptb
    ∧ (startWatching d).htk = d.htk ∧ (startWatching d).cpl = d.cpl ∧ (startWatching d).crs = d.crs
    ∧ (startWatching d).cdu = d.cdu ∧ (startWatching d).fdu = d.fdu ∧ (startWatching d).rqs = d.rqs := by
  simp [startWatching]

/-! ### Station.lean -/

@[simp] theorem startRead_frame (page : Nat) (d : Device) :
    (startRead page d).clock = d.clock ∧ (startRead page d).pins = d.pins ∧ (startRead page d).ciu = d.ciu
    ∧ (startRead page d).liu = d.liu ∧ (startRead page d).fx = d.fx ∧ (startRead page d).ptb = d.ptb
    ∧ (startRead page d).htk = d.htk ∧ (startRead page d).cpl = d.cpl ∧ (startRead page d).crs = d.crs
    ∧ (startRead page d).cdu = d.cdu ∧ (startRead page d).fdu = d.fdu ∧ (startRead page d).rqs = d.rqs := by
  simp [startRead]

@[simp] theorem enterLoading_frame (d : Device) :
    (enterLoading d).clock = d.clock ∧ (enterLoading d).pins = d.pins ∧ (enterLoading d).ciu = d.ciu
    ∧ (enterLoading d).liu = d.liu ∧ (enterLoading d).fx = d.fx ∧ (enterLoading d).ptb = d.ptb
    ∧ (enterLoading d).htk = d.htk ∧ (enterLoading d).cpl = d.cpl ∧ (enterLoading d).crs = d.crs
    ∧ (enterLoading d).cdu = d.cdu ∧ (enterLoading d).fdu = d.fdu ∧ (enterLoading d).rqs = d.rqs := by
  unfold enterLoading
  split <;> simp

@[simp] theorem enterListening_frame (im : Image) (d : Device) :
    (enterListening im d).clock = d.clock ∧ (enterListening im d).pins = d.pins
    ∧ (enterListening im d).crs = d.crs := by
  unfold enterListening
  simp only []
  split <;> simp

@[simp] theorem usePage_frame (used : PageUsed) (page : List Byte) (d : Device) :
    (usePage used page d).clock = d.clock ∧ (usePage used page d).pins = d.pins
    ∧ (usePage used page d).crs = d.crs := by
  unfold usePage
  simp only []
  split <;> simp

@[simp] theorem pageComplete_frame (page : List Byte) (camRdy : Bool) (d : Device) :
    (pageComplete page camRdy d).clock = d.clock ∧ (pageComplete page camRdy d).crs = d.crs := by
  unfold pageComplete
  (repeat' split) <;> simp

@[simp] theorem commonStart_frame (d : Device) :
    (commonStart d).clock = d.clock ∧ (commonStart d).pins = d.pins ∧ (commonStart d).ciu = d.ciu
    ∧ (commonStart d).liu = d.liu ∧ (commonStart d).fx = d.fx ∧ (commonStart d).ptb = d.ptb
    ∧ (commonStart d).htk = d.htk ∧ (commonStart d).cpl = d.cpl ∧ (commonStart d).crs = d.crs
    ∧ (commonStart d).cdu = d.cdu ∧ (commonStart d).fdu = d.fdu ∧ (commonStart d).rqs = d.rqs := by
  unfold commonStart
  split <;> simp

@[simp] theorem enterRunning_frame (d : Device) :
    (enterRunning d).clock = d.clock ∧ (enterRunning d).pins = d.pins ∧ (enterRunning d).ciu = d.ciu
    ∧ (enterRunning d).ptb = d.ptb ∧ (enterRunning d).htk = d.htk ∧ (enterRunning d).cpl = d.cpl
    ∧ (enterRunning d).crs = d.crs ∧ (enterRunning d).cdu = d.cdu ∧ (enterRunning d).fdu = d.fdu
    ∧ (enterRunning d).rqs = d.rqs := by
  simp [enterRunning]

@[simp] theorem listeningExpires_frame (d : Device) :
    (listeningExpires d).clock = d.clock ∧ (listeningExpires d).pins = d.pins ∧ (listeningExpires d).ciu = d.ciu
    ∧ (listeningExpires d).ptb = d.ptb ∧ (listeningExpires d).htk = d.htk ∧ (listeningExpires d).cpl = d.cpl
    ∧ (listeningExpires d).crs = d.crs ∧ (listeningExpires d).cdu = d.cdu ∧ (listeningExpires d).fdu = d.fdu
    ∧ (listeningExpires d).rqs = d.rqs := by
  unfold listeningExpires
  split <;> simp

@[simp] theorem nextPhase_frame (d : Device) :
    (nextPhase d).clock = d.clock ∧ (nextPhase d).pins = d.pins ∧ (nextPhase d).ciu = d.ciu
    ∧ (nextPhase d).liu = d.liu ∧ (nextPhase d).fx = d.fx ∧ (nextPhase d).ptb = d.ptb
    ∧ (nextPhase d).htk = d.htk ∧ (nextPhase d).cpl = d.cpl ∧ (nextPhase d).crs = d.crs
    ∧ (nextPhase d).cdu = d.cdu ∧ (nextPhase d).fdu = d.fdu ∧ (nextPhase d).rqs = d.rqs := by
  simp [nextPhase]

@[simp] theorem phaseExpires_frame (d : Device) :
    (phaseExpires d).clock = d.clock ∧ (phaseExpires d).pins = d.pins ∧ (phaseExpires d).ciu = d.ciu
    ∧ (phaseExpires d).liu = d.liu ∧ (phaseExpires d).fx = d.fx ∧ (phaseExpires d).ptb = d.ptb
    ∧ (phaseExpires d).htk = d.htk ∧ (phaseExpires d).cpl = d.cpl ∧ (phaseExpires d).crs = d.crs
    ∧ (phaseExpires d).cdu = d.cdu ∧ (phaseExpires d).fdu = d.fdu ∧ (phaseExpires d).rqs = d.rqs := by
  unfold phaseExpires
  split <;> simp

/-! ### Service.lean -/

@[simp] theorem sendReply_frame (command : Byte) (contents : List Byte) (d : Device) :
    (sendReply command contents d).clock = d.clock ∧ (sendReply command contents d).pins = d.pins
    ∧ (sendReply command contents d).cfl = d.cfl ∧ (sendReply command contents d).ciu = d.ciu
    ∧ (sendReply command contents d).liu = d.liu ∧ (sendReply command contents d).fx = d.fx
    ∧ (sendReply command contents d).ptb = d.ptb ∧ (sendReply command contents d).htk = d.htk
    ∧ (sendReply command contents d).cpl = d.cpl ∧ (sendReply command contents d).crs = d.crs
    ∧ (sendReply command contents d).cdu = d.cdu ∧ (sendReply command contents d).fdu = d.fdu := by
  simp [sendReply]

@[simp] theorem takeStatus_frame (d : Device) :
    (takeStatus d).clock = d.clock ∧ (takeStatus d).pins = d.pins ∧ (takeStatus d).cfl = d.cfl
    ∧ (takeStatus d).ciu = d.ciu ∧ (takeStatus d).liu = d.liu ∧ (takeStatus d).fx = d.fx
    ∧ (takeStatus d).ptb = d.ptb ∧ (takeStatus d).htk = d.htk ∧ (takeStatus d).cpl = d.cpl
    ∧ (takeStatus d).crs = d.crs ∧ (takeStatus d).cdu = d.cdu ∧ (takeStatus d).fdu = d.fdu := by
  simp [takeStatus]

@[simp] theorem takeRecordNow_frame (d : Device) :
    (takeRecordNow d).clock = d.clock ∧ (takeRecordNow d).pins = d.pins ∧ (takeRecordNow d).cfl = d.cfl
    ∧ (takeRecordNow d).ciu = d.ciu ∧ (takeRecordNow d).liu = d.liu ∧ (takeRecordNow d).fx = d.fx
    ∧ (takeRecordNow d).ptb = d.ptb ∧ (takeRecordNow d).htk = d.htk ∧ (takeRecordNow d).cpl = d.cpl
    ∧ (takeRecordNow d).crs = d.crs ∧ (takeRecordNow d).cdu = d.cdu ∧ (takeRecordNow d).fdu = d.fdu := by
  unfold takeRecordNow
  split <;> simp

@[simp] theorem takePeekPeers_frame (d : Device) :
    (takePeekPeers d).clock = d.clock ∧ (takePeekPeers d).pins = d.pins ∧ (takePeekPeers d).cfl = d.cfl
    ∧ (takePeekPeers d).ciu = d.ciu ∧ (takePeekPeers d).liu = d.liu ∧ (takePeekPeers d).fx = d.fx
    ∧ (takePeekPeers d).ptb = d.ptb ∧ (takePeekPeers d).htk = d.htk ∧ (takePeekPeers d).cpl = d.cpl
    ∧ (takePeekPeers d).crs = d.crs ∧ (takePeekPeers d).cdu = d.cdu ∧ (takePeekPeers d).fdu = d.fdu := by
  simp [takePeekPeers]

@[simp] theorem takePeekTracks_frame (d : Device) :
    (takePeekTracks d).clock = d.clock ∧ (takePeekTracks d).pins = d.pins ∧ (takePeekTracks d).cfl = d.cfl
    ∧ (takePeekTracks d).ciu = d.ciu ∧ (takePeekTracks d).liu = d.liu ∧ (takePeekTracks d).fx = d.fx
    ∧ (takePeekTracks d).ptb = d.ptb ∧ (takePeekTracks d).htk = d.htk ∧ (takePeekTracks d).cpl = d.cpl
    ∧ (takePeekTracks d).crs = d.crs ∧ (takePeekTracks d).cdu = d.cdu ∧ (takePeekTracks d).fdu = d.fdu := by
  simp [takePeekTracks]

@[simp] theorem takeForce_frame (c : Fin 4) (mask pattern : Byte) (d : Device) :
    (takeForce c mask pattern d).clock = d.clock ∧ (takeForce c mask pattern d).pins = d.pins
    ∧ (takeForce c mask pattern d).cfl = d.cfl ∧ (takeForce c mask pattern d).ptb = d.ptb
    ∧ (takeForce c mask pattern d).crs = d.crs := by
  unfold takeForce
  split <;> simp

@[simp] theorem takeClear_frame (u : LockoutUnit) (d : Device) :
    (takeClear u d).clock = d.clock ∧ (takeClear u d).pins = d.pins ∧ (takeClear u d).cfl = d.cfl
    ∧ (takeClear u d).ciu = d.ciu ∧ (takeClear u d).ptb = d.ptb ∧ (takeClear u d).crs = d.crs := by
  unfold takeClear
  (repeat' split) <;> simp

@[simp] theorem receiverTo_frame (r : Receiver) (bytes : List Byte) (d : Device) :
    (receiverTo r bytes d).clock = d.clock ∧ (receiverTo r bytes d).pins = d.pins
    ∧ (receiverTo r bytes d).cfl = d.cfl ∧ (receiverTo r bytes d).ciu = d.ciu
    ∧ (receiverTo r bytes d).liu = d.liu ∧ (receiverTo r bytes d).fx = d.fx ∧ (receiverTo r bytes d).ptb = d.ptb
    ∧ (receiverTo r bytes d).htk = d.htk ∧ (receiverTo r bytes d).cpl = d.cpl
    ∧ (receiverTo r bytes d).crs = d.crs ∧ (receiverTo r bytes d).cdu = d.cdu
    ∧ (receiverTo r bytes d).fdu = d.fdu := by
  simp [receiverTo]

@[simp] theorem receiverIdle_frame (d : Device) :
    (receiverIdle d).clock = d.clock ∧ (receiverIdle d).pins = d.pins ∧ (receiverIdle d).cfl = d.cfl
    ∧ (receiverIdle d).ciu = d.ciu ∧ (receiverIdle d).liu = d.liu ∧ (receiverIdle d).fx = d.fx
    ∧ (receiverIdle d).ptb = d.ptb ∧ (receiverIdle d).htk = d.htk ∧ (receiverIdle d).cpl = d.cpl
    ∧ (receiverIdle d).crs = d.crs ∧ (receiverIdle d).cdu = d.cdu ∧ (receiverIdle d).fdu = d.fdu := by
  simp [receiverIdle]

@[simp] theorem gapExpires_frame (d : Device) :
    (gapExpires d).clock = d.clock ∧ (gapExpires d).pins = d.pins ∧ (gapExpires d).cfl = d.cfl
    ∧ (gapExpires d).ciu = d.ciu ∧ (gapExpires d).liu = d.liu ∧ (gapExpires d).fx = d.fx
    ∧ (gapExpires d).ptb = d.ptb ∧ (gapExpires d).htk = d.htk ∧ (gapExpires d).cpl = d.cpl
    ∧ (gapExpires d).crs = d.crs ∧ (gapExpires d).cdu = d.cdu ∧ (gapExpires d).fdu = d.fdu := by
  unfold gapExpires
  (repeat' split) <;> simp

@[simp] theorem samplePins_frame (c : ServiceCommand) (stn : BitVec 5) (role : Role) (camRdy : Bool)
    (d : Device) :
    (samplePins c stn role camRdy d).clock = d.clock ∧ (samplePins c stn role camRdy d).cfl = d.cfl
    ∧ (samplePins c stn role camRdy d).ciu = d.ciu ∧ (samplePins c stn role camRdy d).liu = d.liu
    ∧ (samplePins c stn role camRdy d).fx = d.fx ∧ (samplePins c stn role camRdy d).ptb = d.ptb
    ∧ (samplePins c stn role camRdy d).htk = d.htk ∧ (samplePins c stn role camRdy d).cpl = d.cpl
    ∧ (samplePins c stn role camRdy d).crs = d.crs ∧ (samplePins c stn role camRdy d).cdu = d.cdu
    ∧ (samplePins c stn role camRdy d).fdu = d.fdu ∧ (samplePins c stn role camRdy d).rqs = d.rqs := by
  unfold samplePins
  split <;> simp

/-! ### TrackCommands.lean -/

@[simp] theorem horizonExpires_frame (id : Byte) (d : Device) :
    (horizonExpires id d).clock = d.clock ∧ (horizonExpires id d).pins = d.pins
    ∧ (horizonExpires id d).cfl = d.cfl ∧ (horizonExpires id d).ciu = d.ciu ∧ (horizonExpires id d).ptb = d.ptb
    ∧ (horizonExpires id d).cpl = d.cpl ∧ (horizonExpires id d).crs = d.crs := by
  unfold horizonExpires
  (repeat' split) <;> simp

@[simp] theorem missExpires_frame (id : Byte) (d : Device) :
    (missExpires id d).clock = d.clock ∧ (missExpires id d).pins = d.pins ∧ (missExpires id d).cfl = d.cfl
    ∧ (missExpires id d).ciu = d.ciu ∧ (missExpires id d).ptb = d.ptb ∧ (missExpires id d).cpl = d.cpl
    ∧ (missExpires id d).crs = d.crs ∧ (missExpires id d).cdu = d.cdu ∧ (missExpires id d).fdu = d.fdu := by
  unfold missExpires
  (repeat' split) <;> simp

@[simp] theorem armPointExpires_frame (id : Byte) (d : Device) :
    (armPointExpires id d).clock = d.clock ∧ (armPointExpires id d).pins = d.pins
    ∧ (armPointExpires id d).cfl = d.cfl ∧ (armPointExpires id d).ciu = d.ciu
    ∧ (armPointExpires id d).ptb = d.ptb ∧ (armPointExpires id d).cpl = d.cpl
    ∧ (armPointExpires id d).crs = d.crs := by
  unfold armPointExpires
  (repeat' split) <;> simp

@[simp] theorem claimExpires_frame (key : ClaimKey) (d : Device) :
    (claimExpires key d).clock = d.clock ∧ (claimExpires key d).pins = d.pins ∧ (claimExpires key d).cfl = d.cfl
    ∧ (claimExpires key d).ciu = d.ciu ∧ (claimExpires key d).ptb = d.ptb ∧ (claimExpires key d).cpl = d.cpl := by
  unfold claimExpires
  (repeat' split) <;> simp

@[simp] theorem orderEnds_frame (d : Device) :
    (orderEnds d).clock = d.clock ∧ (orderEnds d).pins = d.pins ∧ (orderEnds d).cfl = d.cfl
    ∧ (orderEnds d).ciu = d.ciu ∧ (orderEnds d).liu = d.liu ∧ (orderEnds d).fx = d.fx
    ∧ (orderEnds d).ptb = d.ptb ∧ (orderEnds d).crs = d.crs ∧ (orderEnds d).rqs = d.rqs := by
  unfold orderEnds
  split <;> simp

@[simp] theorem bootDeadlineExpires_frame (d : Device) :
    (bootDeadlineExpires d).clock = d.clock ∧ (bootDeadlineExpires d).pins = d.pins
    ∧ (bootDeadlineExpires d).cfl = d.cfl ∧ (bootDeadlineExpires d).ciu = d.ciu
    ∧ (bootDeadlineExpires d).ptb = d.ptb ∧ (bootDeadlineExpires d).cpl = d.cpl
    ∧ (bootDeadlineExpires d).crs = d.crs := by
  unfold bootDeadlineExpires
  (repeat' split) <;> simp

@[simp] theorem readyArrives_frame (d : Device) :
    (readyArrives d).clock = d.clock ∧ (readyArrives d).cfl = d.cfl ∧ (readyArrives d).ciu = d.ciu
    ∧ (readyArrives d).ptb = d.ptb ∧ (readyArrives d).crs = d.crs := by
  simp [readyArrives]

@[simp] theorem readyExpires_frame (d : Device) :
    (readyExpires d).clock = d.clock ∧ (readyExpires d).pins = d.pins ∧ (readyExpires d).cfl = d.cfl
    ∧ (readyExpires d).ciu = d.ciu ∧ (readyExpires d).ptb = d.ptb ∧ (readyExpires d).cpl = d.cpl
    ∧ (readyExpires d).crs = d.crs := by
  unfold readyExpires
  (repeat' split) <;> simp

@[simp] theorem triggerEnds_frame (d : Device) :
    (triggerEnds d).clock = d.clock ∧ (triggerEnds d).pins = d.pins ∧ (triggerEnds d).cfl = d.cfl
    ∧ (triggerEnds d).ciu = d.ciu ∧ (triggerEnds d).liu = d.liu ∧ (triggerEnds d).fx = d.fx
    ∧ (triggerEnds d).ptb = d.ptb ∧ (triggerEnds d).crs = d.crs ∧ (triggerEnds d).rqs = d.rqs := by
  unfold triggerEnds
  split <;> simp

@[simp] theorem removeDecision_frame (x : FlashDecision) (d : Device) :
    (removeDecision x d).clock = d.clock ∧ (removeDecision x d).pins = d.pins ∧ (removeDecision x d).cfl = d.cfl
    ∧ (removeDecision x d).ciu = d.ciu ∧ (removeDecision x d).liu = d.liu ∧ (removeDecision x d).fx = d.fx
    ∧ (removeDecision x d).ptb = d.ptb ∧ (removeDecision x d).htk = d.htk ∧ (removeDecision x d).cpl = d.cpl
    ∧ (removeDecision x d).crs = d.crs ∧ (removeDecision x d).cdu = d.cdu ∧ (removeDecision x d).rqs = d.rqs := by
  simp [removeDecision]

@[simp] theorem flashReached_frame (id : Byte) (k : Nat) (d : Device) :
    (flashReached id k d).clock = d.clock ∧ (flashReached id k d).pins = d.pins
    ∧ (flashReached id k d).cfl = d.cfl ∧ (flashReached id k d).ciu = d.ciu ∧ (flashReached id k d).ptb = d.ptb
    ∧ (flashReached id k d).cpl = d.cpl ∧ (flashReached id k d).crs = d.crs ∧ (flashReached id k d).cdu = d.cdu := by
  unfold flashReached
  (repeat' split) <;> simp

@[simp] theorem fireEnds_frame (d : Device) :
    (fireEnds d).clock = d.clock ∧ (fireEnds d).pins = d.pins ∧ (fireEnds d).cfl = d.cfl
    ∧ (fireEnds d).ciu = d.ciu ∧ (fireEnds d).liu = d.liu ∧ (fireEnds d).fx = d.fx ∧ (fireEnds d).ptb = d.ptb
    ∧ (fireEnds d).htk = d.htk ∧ (fireEnds d).cpl = d.cpl ∧ (fireEnds d).crs = d.crs ∧ (fireEnds d).cdu = d.cdu
    ∧ (fireEnds d).rqs = d.rqs := by
  unfold fireEnds
  split <;> simp

@[simp] theorem returnExpires_frame (id : Byte) (k : Nat) (d : Device) :
    (returnExpires id k d).clock = d.clock ∧ (returnExpires id k d).pins = d.pins
    ∧ (returnExpires id k d).cfl = d.cfl ∧ (returnExpires id k d).ciu = d.ciu
    ∧ (returnExpires id k d).ptb = d.ptb ∧ (returnExpires id k d).cpl = d.cpl
    ∧ (returnExpires id k d).crs = d.crs := by
  unfold returnExpires
  (repeat' split) <;> simp

end Sys2Proof.Machine
end

