-- ==== Sys2Proof/Laws/State.lean ====
section
/-! SUPPORT. What the named updates write, field by field, and what taking a command at an instant comes to. -/

namespace Sys2Proof.Machine

/-! ### The clock -/

theorem advanceTo_clock (t : Time) (d : Device) :
    (advanceTo t d).clock = if isAfter t d.clock then t else d.clock := by
  unfold advanceTo
  split <;> rfl

@[simp] theorem isAfter_self (t : Time) : isAfter t t = false := by simp [isAfter, timeDiff]

@[simp] theorem advanceTo_twice (t : Time) (d : Device) : advanceTo t (advanceTo t d) = advanceTo t d := by
  unfold advanceTo
  split <;> simp_all

@[simp] theorem advanceTo_now (d : Device) : advanceTo d.clock d = d := by simp [advanceTo]

/-! ### Curtains and sequencers -/

/-- Reading a place of a vector after one place was replaced. -/
theorem vectorGet_set {α : Type} {n : Nat} (v : Vector α n) (i j : Fin n) (x : α) :
    (v.set i.val x i.isLt).get j = if j = i then x else v.get j := by
  have e : ∀ (w : Vector α n) (k : Fin n), w.get k = w[k.val] := fun _ _ => rfl
  rw [e, e, Vector.getElem_set]
  simp only [Fin.ext_iff, eq_comm]

@[simp] theorem curtain_setCurtain_same (c : Fin 4) (x : Curtain) (d : Device) : curtain (setCurtain c x d) c = x := by
  simp [curtain, setCurtain, vectorGet_set]

theorem curtain_setCurtain_other (c k : Fin 4) (x : Curtain) (d : Device) (h : k ≠ c) :
    curtain (setCurtain c x d) k = curtain d k := by
  simp [curtain, setCurtain, vectorGet_set, h]

@[simp] theorem setCurtain_setCurtain (c : Fin 4) (x y : Curtain) (d : Device) :
    setCurtain c x (setCurtain c y d) = setCurtain c x d := by simp [setCurtain]

@[simp] theorem setCurtain_pairs (c : Fin 4) (x : Curtain) (d : Device) :
    (setCurtain c x d).ciu.pairs = d.ciu.pairs := rfl

@[simp] theorem sequencer_setCurtain (c : Fin 4) (x : Curtain) (d : Device) (p : Fin 2) :
    sequencer (setCurtain c x d) p = sequencer d p := rfl

@[simp] theorem sequencer_setSequencer_same (p : Fin 2) (x : Sequencer) (d : Device) :
    sequencer (setSequencer p x d) p = x := by
  simp [sequencer, setSequencer, vectorGet_set]

theorem sequencer_setSequencer_other (p q : Fin 2) (x : Sequencer) (d : Device) (h : q ≠ p) :
    sequencer (setSequencer p x d) q = sequencer d q := by
  simp [sequencer, setSequencer, vectorGet_set, h]

@[simp] theorem setSequencer_curtains (p : Fin 2) (x : Sequencer) (d : Device) :
    (setSequencer p x d).ciu.curtains = d.ciu.curtains := rfl

@[simp] theorem curtain_setSequencer (p : Fin 2) (x : Sequencer) (d : Device) (c : Fin 4) :
    curtain (setSequencer p x d) c = curtain d c := rfl

/-! ### Line pairs and peers -/

@[simp] theorem linePair_setLinePair_same (p : LinePair) (x : PairState) (d : Device) :
    linePair (setLinePair p x d) p = x := by cases p <;> rfl

theorem linePair_setLinePair_other (p q : LinePair) (x : PairState) (d : Device) (h : q ≠ p) :
    linePair (setLinePair p x d) q = linePair d q := by cases p <;> cases q <;> first | rfl | exact absurd rfl h

theorem peer_setPeer_same (p : Nat) (x : PeerEntry) (d : Device) (h : 1 ≤ p ∧ p ≤ 31) (o : p ≠ ownNumber d) :
    peer (setPeer p x d) p = x := by
  have o' : p ≠ ownNumber (setPeer p x d) := by simpa [ownNumber] using o
  unfold peer
  rw [dif_pos h, if_neg o']
  unfold setPeer
  rw [dif_pos h, if_neg o]
  exact (vectorGet_set d.ptb.peers ⟨p - 1, by omega⟩ ⟨p - 1, by omega⟩ x).trans (if_pos rfl)

/-! ### Head tracks -/

@[simp] theorem setTracks_tracks (l : List Track) (d : Device) : (setTracks l d).htk.tracks = l := rfl
@[simp] theorem setTracks_nextId (l : List Track) (d : Device) : (setTracks l d).htk.nextId = d.htk.nextId := rfl
@[simp] theorem setTracks_nextCreated (l : List Track) (d : Device) :
    (setTracks l d).htk.nextCreated = d.htk.nextCreated := rfl
@[simp] theorem setTracks_tooFar (l : List Track) (d : Device) : (setTracks l d).htk.tooFar = d.htk.tooFar := rfl

@[simp] theorem modifyTrack_tracks (id : Byte) (f : Track → Track) (d : Device) :
    (modifyTrack id f d).htk.tracks = d.htk.tracks.map fun tr => if tr.id == id then f tr else tr := rfl
@[simp] theorem modifyTrack_tooFar (id : Byte) (f : Track → Track) (d : Device) :
    (modifyTrack id f d).htk.tooFar = d.htk.tooFar := rfl

@[simp] theorem placeTrack_tracks (tr : Track) (d : Device) :
    (placeTrack tr d).htk.tracks = insertTrack tr (d.htk.tracks.filter fun x => x.id != tr.id) := rfl

/-- A track put in its place is in the list beside those that stood there. -/
theorem mem_insertTrack (tr x : Track) (l : List Track) : x ∈ insertTrack tr l ↔ x = tr ∨ x ∈ l := by
  induction l with
  | nil => simp [insertTrack]
  | cons y l ih =>
    unfold insertTrack
    split <;> simp [ih, or_left_comm]

theorem length_insertTrack (tr : Track) (l : List Track) : (insertTrack tr l).length = l.length + 1 := by
  induction l with
  | nil => rfl
  | cons y l ih =>
    unfold insertTrack
    split <;> simp [ih]

/-! ### Event flags and the indicator -/

@[simp] theorem raise_flags (f : EventFlag) (d : Device) : (raise f d).rqs.flags = d.rqs.flags ||| flagBit f := rfl
@[simp] theorem raise_records (f : EventFlag) (d : Device) : (raise f d).rqs.records = d.rqs.records := rfl
@[simp] theorem raise_passage (f : EventFlag) (d : Device) : (raise f d).rqs.passage = d.rqs.passage := rfl
@[simp] theorem raise_receiver (f : EventFlag) (d : Device) : (raise f d).rqs.receiver = d.rqs.receiver := rfl
@[simp] theorem raise_inHand (f : EventFlag) (d : Device) : (raise f d).rqs.inHand = d.rqs.inHand := rfl
@[simp] theorem raise_held (f : EventFlag) (d : Device) : (raise f d).rqs.held = d.rqs.held := rfl
@[simp] theorem raise_reply (f : EventFlag) (d : Device) : (raise f d).rqs.reply = d.rqs.reply := rfl

@[simp] theorem startPattern_station (p : Indicator) (d : Device) : (startPattern p d).cfl.station = d.cfl.station := rfl
@[simp] theorem startPattern_number (p : Indicator) (d : Device) : (startPattern p d).cfl.number = d.cfl.number := rfl
@[simp] theorem startPattern_role (p : Indicator) (d : Device) : (startPattern p d).cfl.role = d.cfl.role := rfl
@[simp] theorem startPattern_image (p : Indicator) (d : Device) : (startPattern p d).cfl.image = d.cfl.image := rfl
@[simp] theorem startPattern_indicator (p : Indicator) (d : Device) : (startPattern p d).cfl.indicator = p := rfl

/-- The pattern that is due does not depend on the pattern shown. -/
@[simp] theorem indicatorPattern_startPattern (p : Indicator) (d : Device) :
    indicatorPattern (startPattern p d) = indicatorPattern d := rfl

/-- R199: once worked out again, the pattern shown is the one the conditions give. -/
theorem refreshIndicator_shows (d : Device) :
    (refreshIndicator d).cfl.indicator = indicatorPattern (refreshIndicator d) := by
  unfold refreshIndicator
  split
  · simp_all
  · simp

@[simp] theorem refreshIndicator_cfl (d : Device) :
    (refreshIndicator d).cfl.station = d.cfl.station ∧ (refreshIndicator d).cfl.number = d.cfl.number
      ∧ (refreshIndicator d).cfl.role = d.cfl.role ∧ (refreshIndicator d).cfl.pageUsed = d.cfl.pageUsed
      ∧ (refreshIndicator d).cfl.loadStep = d.cfl.loadStep ∧ (refreshIndicator d).cfl.image = d.cfl.image
      ∧ (refreshIndicator d).cfl.reading = d.cfl.reading ∧ (refreshIndicator d).cfl.commonAt = d.cfl.commonAt
      ∧ (refreshIndicator d).cfl.listeningDeadline = d.cfl.listeningDeadline := by
  unfold refreshIndicator
  split <;> simp [startPattern]

/-! ### Taking a command -/

@[simp] theorem settled_dev (s : State) (d : Device) : (settled s d).dev = refreshIndicator d := rfl
@[simp] theorem settled_pending (s : State) (d : Device) : (settled s d).pending = s.pending := rfl

/-- A command taken by a part that RST_N does not hold: its effect comes about on the part as found. -/
theorem taken_found {t : Time} {s : State} {d : Device} (f : Device → Device) (h : FoundAt t s d) :
    taken t f s = .next (settled s (f d)) := by
  obtain ⟨hr, rfl⟩ := h
  simp [taken, settled, hr]

/-- A command taken while RST_N is active has no effect. -/
theorem taken_held {t : Time} {s : State} (f : Device → Device) (h : s.dev.pins.rstActive = true) :
    taken t f s = .next s := by simp [taken, h]

end Sys2Proof.Machine
end

