-- ==== Sys2Proof/Laws/Ops.lean ====
section
/-! SUPPORT. For the shared operations, one lemma each that says what it can do; later proofs cite these. -/

namespace Sys2Proof.Machine

/-! ### Vectors -/

theorem mapVec_get {α β : Type} {n : Nat} (f : α → β) (v : Vector α n) (i : Fin n) : (mapVec f v).get i = f (v.get i) := by
  have e : ∀ {γ : Type} (w : Vector γ n) (k : Fin n), w.get k = w[k.val] := fun _ _ => rfl
  rw [e, e]
  simp [mapVec, Vector.getElem_mk]

theorem mapVec_toList {α β : Type} {n : Nat} (f : α → β) (v : Vector α n) : (mapVec f v).toList = v.toList.map f := by
  simp [mapVec, Vector.toList]

/-! ### Curtains -/

theorem get_withBeam (cu : Curtain) (i j : Fin 8) (b : Beam) :
    (withBeam cu i b).beams.get j = if j = i then b else cu.beams.get j := vectorGet_set _ _ _ _

/-- A beam replaced by one that counts alike leaves the count. -/
theorem beamCount_withBeam (f : Beam → Bool) (cu : Curtain) (i : Fin 8) (b : Beam) (h : f b = f (cu.beams.get i)) :
    beamCount f (withBeam cu i b) = beamCount f cu := by
  have e : (withBeam cu i b).beams.toList = cu.beams.toList.set i.val b := by
    simp only [withBeam, Vector.set, Vector.toList, Array.toList_set]
  have hl : i.val < cu.beams.toList.length := by simp
  have hg : cu.beams.get i = cu.beams.toList[i.val] := by simp [Vector.get]
  simp only [beamCount, e, ← List.countP_eq_length_filter, List.countP_set hl, ← hg, h]
  split
  · rename_i hh
    have : 0 < List.countP f cu.beams.toList :=
      List.countP_pos_iff.2 ⟨_, List.getElem_mem hl, by rw [← hg]; exact hh⟩
    omega
  · simp

theorem beamCount_setsJoined (f : Beam → Bool) (cu : Curtain) : beamCount f (setsJoined cu) = beamCount f cu := by
  unfold setsJoined
  split <;> rfl

theorem modifyBeam_eq (c : Fin 4) (i : Fin 8) (f : Beam → Beam) (d : Device) :
    modifyBeam c i f d = setCurtain c (withBeam (curtain d c) i (f ((curtain d c).beams.get i))) d := rfl

/-- A change of a curtain's beams on an enabled pair: the sets join, the dead flag and the break are judged. -/
theorem curtainChanged_setCurtain {c : Fin 4} {d : Device} {pc : PairConfig} (x : Curtain)
    (hv : enabledPair d (pairOf c) = some pc) :
    curtainChanged c (setCurtain c x d) = judgeBreak c pc (judgeDead c pc.minBeams (setCurtain c (setsJoined x) d)) := by
  have e : enabledPair (setCurtain c x d) (pairOf c) = some pc := by simpa [enabledPair] using hv
  unfold curtainChanged
  rw [e]
  simp

/-- R11: a dead flag that stands as the usable count says is left. -/
theorem judgeDead_settled {c : Fin 4} {d : Device} {m : Nat} (x : Curtain)
    (h : x.dead = decide (beamCount usable x < m)) : judgeDead c m (setCurtain c x d) = setCurtain c x d := by
  unfold judgeDead
  simp [← h]

/-- R8: a CLEAR curtain begins a break exactly when its count reaches min beams. -/
theorem judgeBreak_clear {c : Fin 4} {pc : PairConfig} {d : Device} (h : (curtain d c).breakState = .clear) :
    judgeBreak c pc d = if pc.minBeams ≤ beamCount interrupted (curtain d c) then
      setCurtain c (breakBegun d.clock pc.minBreak (curtain d c)) d else d := by
  unfold judgeBreak
  by_cases k : pc.minBeams ≤ beamCount interrupted (curtain d c) <;> simp [h, k]

/-- R9: a PENDING break is ignored exactly when the count falls below min beams. -/
theorem judgeBreak_pending {c : Fin 4} {pc : PairConfig} {d : Device} (h : (curtain d c).breakState = .pending) :
    judgeBreak c pc d = if pc.minBeams ≤ beamCount interrupted (curtain d c) then d
      else breakIgnored c (setCurtain c (breakCleared (curtain d c)) d) := by
  unfold judgeBreak
  by_cases k : pc.minBeams ≤ beamCount interrupted (curtain d c) <;> simp [h, k]

/-- R10: a BROKEN curtain's break ends exactly when the count falls below min beams. -/
theorem judgeBreak_broken {c : Fin 4} {pc : PairConfig} {d : Device} (h : (curtain d c).breakState = .broken) :
    judgeBreak c pc d = if pc.minBeams ≤ beamCount interrupted (curtain d c) then d
      else if isOuter c then outerEnd (pairOf c) pc (setCurtain c (breakCleared (curtain d c)) d)
      else innerEnd (pairOf c) pc (curtain d c).breakBeams (curtain d c).breakMasked
        (setCurtain c (breakCleared (curtain d c)) d) := by
  unfold judgeBreak
  by_cases k : pc.minBeams ≤ beamCount interrupted (curtain d c) <;> simp [h, k]

/-- An evaluated input that changes (R5, R6). -/
theorem rawChange_evaluated {c : Fin 4} {i : Fin 8} {l : Bool} {d : Device} {pc : PairConfig} {im : Image}
    (hv : Evaluated d c pc) (hi : d.cfl.image = some im) (hl : ((curtain d c).beams.get i).raw = !l) :
    rawChange c i l d = curtainChanged c (setCurtain c (withBeam (curtain d c) i
      (rawTiming d.clock (im.stuckLimit * 1000) l { (curtain d c).beams.get i with raw := l })) d) := by
  have e : stuckMicros d = im.stuckLimit * 1000 := by simp [stuckMicros, hi]
  unfold rawChange
  simp only [hl, hv.1, hv.2]
  cases l <;> simp [modifyBeam_eq, e]

theorem anyDead_iff (d : Device) : anyDead d = true ↔ ∃ c, (curtain d c).dead = true := by
  simp only [anyDead, List.any_eq_true, curtain]
  constructor
  · rintro ⟨x, hx, h⟩
    rw [Vector.mem_toList_iff, Vector.mem_iff_getElem] at hx
    obtain ⟨i, hi, rfl⟩ := hx
    exact ⟨⟨i, hi⟩, h⟩
  · rintro ⟨c, h⟩
    exact ⟨_, by rw [Vector.mem_toList_iff]; exact Vector.getElem_mem c.isLt, h⟩

/-! ### Records -/

/-- R174: a record joins a queue of fewer than 32, or is discarded with RECORD_OVERFLOW. -/
theorem joinRecords_cases (r : Record) (d : Device) :
    (d.rqs.records.length < 32 ∧ joinRecords r d = { d with rqs := { d.rqs with records := d.rqs.records ++ [r] } })
    ∨ (32 ≤ d.rqs.records.length ∧ joinRecords r d = raise .recordOverflow d) := by
  unfold joinRecords
  split
  · exact .inl ⟨‹_›, rfl⟩
  · exact .inr ⟨by omega, rfl⟩

theorem offerRecord_bound (advance : Bool) (make : BitVec 24 → Record) (d : Device) (h : d.rqs.records.length ≤ 32) :
    (offerRecord advance make d).rqs.records.length ≤ 32 := by
  unfold offerRecord joinRecords
  simp only
  split <;> simp <;> omega

/-! ### The outbound queue -/

@[simp] theorem setQueue_fx (q : List QueueEntry) (d : Device) : (setQueue q d).fx = { d.fx with queue := q } := by
  simp [setQueue]

/-- What follows the queue leaves the rest of the line. -/
@[simp] theorem setQueue_line (q : List QueueEntry) (d : Device) :
    (setQueue q d).liu.busy = d.liu.busy ∧ (setQueue q d).liu.quietDeadline = d.liu.quietDeadline
      ∧ (setQueue q d).liu.pairA = d.liu.pairA ∧ (setQueue q d).liu.pairB = d.liu.pairB
      ∧ (setQueue q d).liu.frameInHand = d.liu.frameInHand ∧ (setQueue q d).liu.driven = d.liu.driven
      ∧ (setQueue q d).liu.ownDrive = d.liu.ownDrive ∧ (setQueue q d).liu.preferred = d.liu.preferred := by
  unfold setQueue followQueue forgetCollided transmitterEmpty transmitterWaits transmitterDefers
  repeat' (first | split | exact ⟨rfl, rfl, rfl, rfl, rfl, rfl, rfl, rfl⟩)

theorem length_joinByClass (e : QueueEntry) (q : List QueueEntry) : (joinByClass e q).length = q.length + 1 := by
  have h := congrArg List.length
    (List.takeWhile_append_dropWhile (p := fun x => decide (classOf x.out ≤ classOf e.out)) (l := q))
  simp only [List.length_append] at h
  simp only [joinByClass, List.length_append, List.length_cons]
  omega

/-- R49, R54: a newcomer joins a queue that has a place, displaces a victim of a full one, or is dropped. -/
theorem joinQueue_cases (out : Outbound) (d : Device) :
    let e : QueueEntry := { order := d.fx.nextOrder, out := out, onLine := false, revision := none, withdrawn := false }
    let d' := { d with fx := { d.fx with nextOrder := d.fx.nextOrder + 1 } }
    (d.fx.queue.length < 8 ∧ joinQueue out d = (setQueue (joinByClass e d.fx.queue) d', true))
    ∨ (8 ≤ d.fx.queue.length ∧ ∃ v, victimFor (classOf out) d.fx.queue = some v
        ∧ joinQueue out d = (setQueue (joinByClass e (d.fx.queue.filter fun x => x.order != v.order)) d', true))
    ∨ (8 ≤ d.fx.queue.length ∧ victimFor (classOf out) d.fx.queue = none ∧ joinQueue out d = (d, false)) := by
  intro e d'
  by_cases h : d.fx.queue.length < 8
  · exact .inl ⟨h, by simp [joinQueue, h, e, d']⟩
  · cases hv : victimFor (classOf out) d.fx.queue with
    | some v => exact .inr (.inl ⟨by omega, v, rfl, by simp [joinQueue, h, hv, e, d']⟩)
    | none => exact .inr (.inr ⟨by omega, rfl, by simp [joinQueue, h, hv]⟩)

/-- A victim is an entry of a higher class number that is not on the line. -/
theorem victimFor_some {cls : Nat} {q : List QueueEntry} {v : QueueEntry} (h : victimFor cls q = some v) :
    v ∈ q ∧ cls < classOf v.out ∧ v.onLine = false := by
  have m := List.mem_of_getLast? h
  simpa [and_assoc] using m

/-- R34: superseding a frame that did not collide does nothing; else it clears the count and names no frame. -/
theorem supersede_cases (order : Nat) (d : Device) :
    (d.liu.collided ≠ some order ∧ supersede order d = d)
    ∨ (d.liu.collided = some order
        ∧ supersede order d = { d with liu := { d.liu with collisions := 0, collided := none } }) := by
  unfold supersede
  split
  · exact .inr ⟨‹_›, rfl⟩
  · exact .inl ⟨‹_›, rfl⟩

/-! ### The gantry line -/

/-- R200: the levels of a symbol are read back as that symbol. -/
@[simp] theorem codeOfLevels_codeLevels (x : LineCode) : codeOfLevels (codeLevels x).1 (codeLevels x).2 = x := by
  cases x <;> rfl

/-- R32, R38: any copy of a pair that jabbered or failed readback is BAD. -/
theorem judgeCopy_failed {drive : OwnDrive} {x : PairState}
    (h : x.copy.jabbered = true ∨ readbackFails drive x = true) : judgeCopy drive x = (.bad, none) := by
  rcases h with h | h <;> simp [judgeCopy, h]

/-- R38: a GOOD copy has its mark, nothing noted, a sound pair, and gathered the body it is accepted with. -/
theorem judgeCopy_good {drive : OwnDrive} {x : PairState} {r : Option (Time × List Byte)}
    (h : judgeCopy drive x = (.good, r)) :
    x.copy.jabbered = false ∧ readbackFails drive x = false ∧ x.copy.noted = false
      ∧ ∃ m body, x.copy.mark = some m ∧ copyBody x.copy.bits = some body ∧ r = some (m, body) := by
  unfold judgeCopy at h
  split at h
  · simp at h
  · rename_i hs
    split at h
    · split at h <;> simp at h
    · rename_i m hm
      split at h
      · simp at h
      · rename_i hn
        split at h
        · rename_i body hb
          refine ⟨by simp_all, by simp_all, by simp_all, m, body, hm, hb, by simp_all⟩
        · simp at h

/-- R37: what a copy that is receiving holds after a 0 or a 1. -/
theorem hearSymbol_receiving {c : Copy} (b : Bool) (e : Time) (hn : c.noted = false) (hp : c.progress = .receiving) :
    hearSymbol c { firstHalf := b, secondHalf := !b, ends := e } = gatherBit b c := by
  cases b <;> simp [hearSymbol, hn, hp, codeOfLevels]

/-- R28: what a pair that becomes JABBERING does: nothing before its 1,000 µs; else the mark on the pair, and the idle
instant as well beside a silent pair while a quiet deadline is held. -/
theorem takeJabber_cases (p : LinePair) (d : Device) :
    let x := linePair d p
    let d1 := setLinePair p { x with condition := .jabbering, copy := { x.copy with jabbered := true } } d
    takeJabber p d = d
    ∨ (x.condition = .normal ∧ due (x.activityStart.map fun a => laterBy a 1000) d.clock = true
        ∧ ((silent10 d.clock (linePair d (otherPair p)) && d.liu.quietDeadline.isSome) = true ∧ takeJabber p d = idleInstant d1
          ∨ (silent10 d.clock (linePair d (otherPair p)) && d.liu.quietDeadline.isSome) = false ∧ takeJabber p d = d1)) := by
  intro x d1
  unfold takeJabber
  simp only
  split
  · rename_i h
    refine .inr ⟨h.1, h.2, ?_⟩
    split
    · exact .inl ⟨‹_›, rfl⟩
    · exact .inr ⟨Bool.eq_false_iff.2 ‹_›, rfl⟩
  · exact .inl rfl

/-! ### Head tracks -/

theorem findTrack_some {d : Device} {id : Byte} {tr : Track} (h : findTrack d id = some tr) :
    tr ∈ d.htk.tracks ∧ tr.id = id :=
  ⟨List.mem_of_find?_eq_some h, by simpa using List.find?_some h⟩

/-- R108: a live track closed: its record is offered, its claim released unless a pulse was issued or none announced,
and it leaves the list. -/
theorem closeTrack_found {outcome : TrackOutcome} {reason : Reason} {id : Byte} {d : Device} {tr : Track}
    (h : findTrack d id = some tr) :
    let recorded := offerCapture (captureRecord (ownTrack d) outcome reason
      { tr with flags := { tr.flags with unverified := tr.flags.unverified || tr.verify.isNone } }) d
    let released := if !tr.frames.any (·.pulsed) && tr.claimStatus != .none then requestRelease id recorded else recorded
    closeTrack outcome reason id d = setTracks (released.htk.tracks.filter fun x => x.id != id) released := by
  simp [closeTrack, h]

/-- A track that is not live is not closed. -/
theorem closeTrack_absent {outcome : TrackOutcome} {reason : Reason} {id : Byte} {d : Device}
    (h : findTrack d id = none) : closeTrack outcome reason id d = d := by simp [closeTrack, h]

/-! ### The order line and the burst list -/

/-- R156: a message offered starts at once on an IDLE line and waits otherwise. -/
theorem offerMessage_cases (m : OrderMessage) (d : Device) :
    (d.cdu.orderLine = none ∧ offerMessage m d =
        { d with cdu := { d.cdu with orderLine := some (m, laterBy d.clock (5 * m.bytes.length)) } })
    ∨ (d.cdu.orderLine.isSome = true
        ∧ offerMessage m d = { d with cdu := { d.cdu with lineQueue := d.cdu.lineQueue ++ [m] } }) := by
  unfold offerMessage
  split
  · exact .inl ⟨‹_›, rfl⟩
  · exact .inr ⟨by simp [*], rfl⟩

/-- R159: a pulse is issued only when its conditions hold; otherwise nothing happens. -/
theorem issuePulses_cases (d : Device) :
    issuePulses d = d ∨ ∃ b rest im f, d.cdu.bursts = b :: rest ∧ d.cfl.image = some im ∧ nextFrame b = some f
      ∧ mayIssue im d b f = true ∧ issuePulses d = issueNow im b f d := by
  unfold issuePulses
  split
  · rename_i b rest im h1 h2
    split
    · rename_i f h3
      split
      · exact .inr ⟨b, rest, im, f, h1, h2, h3, ‹_›, rfl⟩
      · exact .inl rfl
    · exact .inl rfl
  · exact .inl rfl

end Sys2Proof.Machine
end

