-- ==== Sys2Proof/Tests/Slice0.lean ====
section
/-! SUPPORT. Tests: the checks of WellFormed, figures the spec works out, and for each statement with hypotheses a concrete
state and operands that meet them, clause by clause. -/

namespace Sys2Proof.Tests

open Sys2Proof Sys2Proof.Machine

/-! ### Ill-formed commands are refused -/

theorem test_wellFormed_page : Instr.wellFormed (.pageReadComplete 0#32 [0xA6#8] false) = false := by decide
theorem test_wellFormed_stale : Instr.wellFormed (.staleDeadlineExpires 0#32 0) = false := by decide
theorem test_wellFormed_lost : Instr.wellFormed (.lostDeadlineExpires 0#32 32) = false := by decide
theorem test_wellFormed_claim : Instr.wellFormed (.neighbourClaimExpires 0#32 32 7#8) = false := by decide
theorem test_wellFormed_pulse : Instr.wellFormed (.pulseTimeReached 0#32 7#8 4) = false := by decide
theorem test_wellFormed_flash : Instr.wellFormed (.flashInstant 0#32 7#8 4) = false := by decide
theorem test_wellFormed_return : Instr.wellFormed (.returnDeadlineExpires 0#32 7#8 4) = false := by decide
/-- A STATUS command with its check byte right is not one that R179 discards. -/
theorem test_wellFormed_invalid : Instr.wellFormed (.invalidCommand 0#32 (commandBytes .status)) = false := by decide
theorem test_wellFormed_discarded : Instr.wellFormed (.invalidCommand 0#32 [0x51#8, 0x00#8]) = true := by decide
theorem test_wellFormed_peer : Instr.wellFormed (.staleDeadlineExpires 0#32 31) = true := by decide

/-- The table gives its rows no bits, so no word spells a command. -/
theorem test_decode_none : decodeTableWord 8 0x51 = none := by decide

/-! ### A station to test on -/

/-- The planning values of the spec's worked passages (06, Worked Example: Planning Track 40). -/
def pair : PairConfig :=
  { enabled := true, track := 2, side := .up, d := 2000, b := 2000,
    heights := [4800, 4950, 5100, 5250, 5400, 5550, 5700, 5850], minBeams := 2, minBreak := 150 }

def image : Image :=
  { ownTrack := 2, presencePeriod := 200, adjacency := 0x0F#8, mergeWindow := 300, yieldLimit := 1000, guardTime := 200,
    stuckLimit := 2000, planHorizon := 600, trimLimit := 3000, pair0 := pair, pair1 := { pair with enabled := false },
    stripEnable := true, stripBaseCode := 2, stripAdd := 0, rowRef := 1024, hRef := 5300, rowsPerM := 400,
    rowTime := 4000, recovery := 300, zone := 400, blurLimit := 3, eMax := 500, nMax := 4, pMax := 2,
    flashSpacing := 6000, gainBoost := 4, triggerLatency := 20, armLead := 3000, cameraSetup := 800,
    readyMargin := 500, bootWindow := 3000, returnWindow := 200, captions := [] }

/-- Station 12 in a state and a role, its clock at 0, its camera IDLE. -/
def station (st : StationState) (role : Role) : Device :=
  { Device.reset with
    cfl := { Cfl.reset with
      station := st, number := some 12, role := some role, loadStep := .done, pageUsed := .station,
      image := some image },
    cdu := { Cdu.reset with state := .idle } }

/-- The part with nothing waiting. -/
def alone (d : Device) : State := { dev := d, pending := [] }

/-- The instant of the tests. -/
abbrev now : Time := 5000#32

/-- What a command at that instant finds. -/
abbrev found (d : Device) : Device := advanceTo now d

def withSeq (p : Fin 2) (q : Sequencer) (d : Device) : Device := setSequencer p q d

/-- The first k beams of a curtain interrupted. -/
def beams (k : Nat) : Vector Beam 8 := Vector.ofFn fun i => Beam.reset (decide (i.val < k))

/-- Curtain c with its first k beams interrupted, in a break state, a break that began at 4,000 under way in PENDING. -/
def broken (c : Fin 4) (k : Nat) (st : BreakState) (d : Device) : Device :=
  setCurtain c
    { Curtain.reset (beams k) with
      breakState := st,
      breakStart := if st = .pending then some 4000#32 else none,
      validationDeadline := if st = .pending then some now else none }
    d

/-- The head track of the spec's worked example before its verify event (05; here T0 is 0). -/
def prediction : Prediction := { vg := 82678, tPred := 4826430#32, tol := 7181, basis := .twoMark, travel := 1812930 }

/-- The first plan of that track (06, TABLE 6-4). -/
def plan : Plan := (formPlan image true none prediction (some (5310, 5420))).1

def track : Track :=
  { id := 40#8, created := 0, side := .up, sightings := [], verify := none, pred := prediction, planHorizon := some now,
    missDeadline := some now, armPoint := some now, plan := none, frames := [], claimStatus := .none, residual := none,
    state := .predicted, flags := noFlags, reference := none, announced := none }

def holding (tr : Track) (d : Device) : Device := { d with htk := { d.htk with tracks := [tr] } }

/-- A burst of two frames, its first pulse at the instant of the tests, its order long sent. -/
def burst : Burst :=
  { trackId := 40#8, format := .strip, top := 870, rows := 256, e := 36, n := 2, r := 1324,
    frames := [{ index := 0, pulse := now, gain := 0, issued := false, overdue := false, outcome := none },
               { index := 1, pulse := 9840#32, gain := 0, issued := false, overdue := false, outcome := none }],
    orderEnd := some 4200#32 }

def frame (k : Nat) : FrameEntry :=
  { index := k, pulse := now, flash := .own, outcome := none, misfire := false, pulsed := false, flashReported := false,
    ownFired := false, returnKnown := false }

/-- A page that is valid: its first byte, pair 0 enabled, and the byte that brings the sum to 0. -/
def page : List Byte := 0xA6#8 :: List.replicate 16 0#8 ++ [1#8] ++ List.replicate 237 0#8 ++ [0x59#8]

def entry (order : Nat) (out : Outbound) : QueueEntry :=
  { order := order, out := out, onLine := false, revision := none, withdrawn := false }

def claim : ClaimContents :=
  { trackId := 40#8, track := 2, centre := 4826430#32, n := 3, s := 4838, e := 36, tol := 7181, flashed := [1],
    sentBefore := false }

def sighting : SightingContents :=
  { pair := 0, track := 2, seq := 41#8, v := 83001, band := some (5250, 5550), clamped := false, partialHeight := false,
    forced := false, t2 := 0#32 }

/-! ### Figures the spec works out -/

/-- 04, log 4: State.reset is the part right after POWER_ON with straps 1, CAMERA. -/
theorem test_powerOn : powerOnReset 1#5 .camera Device.reset = Device.reset := by decide

/-- 01, An Approaching Head at a Far Mast: dt = 24,096 µs over 2,000 mm is 83,001 mm/s. -/
theorem test_speed : passageSpeed 2000 5000040#32 5024136#32 = (83001, false) := by decide

/-- The same example: the union of beams 3, 4 and 5 gives 5,250 to 5,550 mm, without PARTIAL_HEIGHT. -/
theorem test_band : heightBand pair.heights 0x38#8 0#8 = (some (5250, 5550), false) := by decide

/-- The same example's variation: beam 6 masked beside the union gives PARTIAL_HEIGHT and the same band. -/
theorem test_band_masked : heightBand pair.heights 0x38#8 0x40#8 = (some (5250, 5550), true) := by decide

/-- 05, Far sighting: t_pred T0 + 4,819,219 and tol 56,675. -/
theorem test_oneMark :
    predictOneMark { station := 7, pair := 0, d := 400000, side := .up, seq := 41#8, t2 := 0#32, v := 83001, band := none,
                     partialHeight := false, forced := false, staleSource := false }
      = { vg := 83001, tPred := 4819219#32, tol := 56675, basis := .oneMark, travel := 4819219 } := by decide

/-- 05, Near sighting: v_g 82,678, t_pred T0 + 4,826,430 and tol 7,181. -/
theorem test_twoMark :
    let far : Sighting :=
      { station := 7, pair := 0, d := 400000, side := .up, seq := 41#8, t2 := 0#32, v := 83001, band := none,
        partialHeight := false, forced := false, staleSource := false }
    predictTwoMark far { far with station := 9, d := 150000, seq := 113#8, t2 := 3013500#32, v := 82799 } = prediction := by
  decide

/-- 11, TABLE 11-2: the verify event's t_pred T0 + 4,826,500 and tol 97. -/
theorem test_verified :
    let p := predictVerify .verified
      { d := 2000, t2 := 4802300#32, v := 82645, band := none, partialHeight := false, forced := false }
    (p.vg, p.tPred, p.tol) = (82645, 4826500#32, 97) := by decide

/-- 06, First plan: N 3, S 4,838, E 36, flashed 1, top 870, the pulse times of TABLE 6-4 and the arm point. -/
theorem test_plan :
    (plan.n, plan.s, plan.e, plan.flashed, plan.gains) = (3, 4838, 36, [1], [4, 0, 4])
      ∧ plan.top = 870 ∧ plan.pulses = [4821554#32, 4826392#32, 4831230#32] ∧ plan.armPoint = 4818554#32 := by decide +kernel

/-- 07, Yielding and the Yield Limit: station 16 yields by 235 µs, and not at all with a yield limit of 200. -/
theorem test_yield :
    let p : Plan := { plan with
      n := 2, s := 5000, offsets := offsetsOf 2 5000, e := 50, flashed := [0], plannedFlashed := [0], tPred := 1000000#32 }
    let c : NeighbourClaim :=
      { key := { station := 11, trackId := 9#8 }, track := 3, flash := true, centre := 1002480#32, n := 1, s := 4000,
        e := 60, tol := 1500, flashed := [0], join := 0, expiry := 0#32 }
    let r := resolvePlan image 16 3000 [c] p
    let limited := resolvePlan { image with yieldLimit := 200 } 16 3000 [c] p
    (r.plan.sigma, r.glareRisk, limited.plan.sigma, limited.glareRisk) = (235, false, 0, true) := by decide

/-- 02, TABLE 2-6: a BAD copy beside a GOOD one takes 60 to 68, the GOOD one takes 20 to 19. -/
theorem test_nextQuality : (nextQuality .bad .good 60, nextQuality .good .bad 20) = (68, 19) := by decide

/-- 02, One Idle Instant, Three Waiting Stations: station 12's CLAIM waits 60 µs, station 5's PRESENCE 345 µs. -/
theorem test_slot : ((classOf (.claim claim) * 32 + 12) * 5, (classOf .presence * 32 + 5) * 5) = (60, 345) := by decide

/-- 12, R200: the symbols of a frame begin 1, 0, J, K, J, K, 1, 0; a first body byte 01h follows low bit first. -/
theorem test_frameCodes :
    (frameCodes [0x01#8] 0#16).take 16 =
      [.one, .zero, .j, .k, .j, .k, .one, .zero, .one, .zero, .zero, .zero, .zero, .zero, .zero, .zero] := by decide

/-- 12, R200: a delimiter heard as levels, then a 0 (low, high) and a J (high throughout), which is a violation. -/
theorem test_heard :
    let heard : List LineSymbol :=
      [⟨true, false, 1#32⟩, ⟨false, true, 2#32⟩, ⟨true, true, 3#32⟩, ⟨false, false, 4#32⟩, ⟨true, true, 5#32⟩,
        ⟨false, false, 6#32⟩, ⟨true, false, 7#32⟩, ⟨false, true, 8#32⟩, ⟨false, true, 9#32⟩, ⟨true, true, 10#32⟩]
    let c := hearTransition 0#32 heard (Copy.fresh false)
    (c.mark, c.bits, c.noted) = (some 8#32, [false], true) := by decide

/-- 12, Configuration memory: the read request 03h and the address of page 63's first byte, 63 × 256. -/
theorem test_readRequest : readRequest 63 = [0x03#8, 0x00#8, 0x3F#8, 0x00#8] := by decide

/-- 03, R47, R56: a t2 more than 2^31 µs old gives an age above 65,535, and the SIGHTING is dropped. -/
theorem test_oldAge :
    fixFrame Device.reset 2147483653#32
      (.sighting { pair := 0, track := 2, seq := 0#8, v := 500, band := none, clamped := false, partialHeight := false,
                   forced := false, t2 := 0#32 }) = .dropped none := by decide +kernel

/-- 09, TABLE 9-8: the passage number after 000418, and its wrap (R175). -/
theorem test_passage : (bcdSucc 0x000418#24, bcdSucc 0x999999#24) = (0x000419#24, 0x000000#24) := by decide

/-- 10, TABLE 10-7: the station page read ends at 2,080 and page 63 begins at 2,090. -/
theorem test_startUp :
    let d := advanceTo 2080#32 Device.reset
    (pageComplete [] false d).cfl.loadStep = .readCommon ∧ (pageComplete [] false d).cfl.commonAt = some 2090#32 := by
  decide

/-- 08, the READY window of a frame issued at p with R 8,492 and margin 500: p + 7,992 to p + 8,992. -/
theorem test_readyWindow :
    ∀ f ∈ burst.frames, let o := outstandingOf image 0#32 { burst with r := 8492 } f
      (o.earlyBound, o.readyDeadline) = (7992#32, 8992#32) := by decide

/-! ### Every statement's hypotheses are met somewhere -/

def ready : Device := station .running .camera

/-- Approach station. -/
def mast : Device := station .running .approach

theorem witness_StepTakesFront :
    ({ dev := ready, pending := [.status now] } : State).pending = [.status now] ∧ (alone ready).pending = []
      ∧ ready.pins.rstActive = false ∧ { ready.pins with rstActive := true }.rstActive = true := by decide

theorem witness_HeldInReset :
    let d : Device := { ready with pins := { ready.pins with rstActive := true } }
    (alone d).dev.pins.rstActive = true ∧ (∀ stn role, Instr.status now ≠ .powerOn stn role)
      ∧ Instr.status now ≠ .rstNAsserted ∧ (∀ t k i l, Instr.status now ≠ .rawLevelChange t k i l) :=
  ⟨rfl, fun _ _ => nofun, nofun, fun _ _ _ _ => nofun⟩

theorem witness_PowerOnStartsLoad : (1#5 : BitVec 5) ≠ 0#5 ∧ (31#5 : BitVec 5) ≠ 0#5 ∧ (0#5 : BitVec 5) = 0#5 := by decide

theorem witness_PageValidity : page.length = 256 ∧ pageValid page = true ∧ (page.set 255 0x58#8).length = 256
    ∧ pageValid (page.set 255 0x58#8) = false := by decide +kernel

/-- A station that reads a page whose read ends at the instant of the tests. -/
def loading (step : LoadStep) (role : Role) : Device :=
  { Device.reset with
    cfl := { Device.reset.cfl with loadStep := step, role := some role, reading := some (1, now) } }

theorem witness_InvalidPagesLead :
    let a := loading .readStation .camera
    let b := loading .readCommon .camera
    let c : Device := { a with cfl := { a.cfl with reading := none, commonAt := some now } }
    (∃ n, n ≤ 63 ∧ a.cfl.reading = some (n, now))
      ∧ FoundAt now (alone a) (found a) ∧ (found a).cfl.reading = some (1, now) ∧ isAfter now (found a).clock = false
      ∧ pageValid (List.replicate 256 0#8) = false ∧ (found a).cfl.loadStep = .readStation
      ∧ FoundAt now (alone b) (found b) ∧ (found b).cfl.reading = some (1, now) ∧ (found b).cfl.loadStep = .readCommon
      ∧ FoundAt now (alone c) (found c) ∧ (found c).cfl.commonAt = some now :=
  ⟨⟨1, by decide, rfl⟩, by decide +kernel⟩

/-- Curtain C0 with two beams interrupted at its inputs while the page is read. -/
def shaded (step : LoadStep) (role : Role) : Device :=
  setCurtain 0 (Curtain.reset (beams 2)) (loading step role)

theorem shaded_agrees (step : LoadStep) (role : Role) :
    StationAgrees (found (shaded step role)) ∧ ResetHeld (found (shaded step role)) := by
  cases step <;> cases role <;>
    exact ⟨⟨rfl, nofun, fun _ => rfl, fun _ => rfl, fun n h => by cases h; decide⟩, fun _ => by decide⟩

/-- The load from the station page in the camera role, and from page 63 in the approach role. -/
theorem witness_ValidPageEntersListening :
    let a := shaded .readStation .camera
    let b := shaded .readCommon .approach
    FoundAt now (alone a) (found a) ∧ StationAgrees (found a) ∧ ResetHeld (found a)
      ∧ (found a).cfl.station = .loading ∧ (found a).cfl.role = some .camera ∧ (found a).cfl.reading = some (1, now)
      ∧ isAfter now (found a).clock = false ∧ pageValid page = true ∧ (found a).cfl.loadStep = .readStation
      ∧ FoundAt now (alone b) (found b) ∧ StationAgrees (found b) ∧ ResetHeld (found b)
      ∧ (found b).cfl.station = .loading ∧ (found b).cfl.role = some .approach
      ∧ (found b).cfl.reading = some (1, now) ∧ isAfter now (found b).clock = false
      ∧ (found b).cfl.loadStep = .readCommon :=
  ⟨⟨rfl, rfl⟩, (shaded_agrees _ _).1, (shaded_agrees _ _).2, rfl, rfl, rfl, by decide, by decide +kernel, rfl, ⟨rfl, rfl⟩,
    (shaded_agrees _ _).1, (shaded_agrees _ _).2, rfl, rfl, rfl, by decide, rfl⟩

/-- Pair 0 is enabled and pair 1 is not; of pair 0, C0 stands at its min beams and C1 below them. -/
theorem witness_EvaluationBegins :
    let im := imageOf .camera page
    let d := found (shaded .readStation .camera)
    FoundAt now (alone (shaded .readStation .camera)) d ∧ StationAgrees d ∧ ResetHeld d ∧ d.cfl.station = .loading
      ∧ d.cfl.role = some .camera ∧ d.cfl.reading = some (1, now) ∧ isAfter now d.clock = false
      ∧ pageValid page = true ∧ d.cfl.loadStep = .readStation
      ∧ (pairConfig im (pairOf 0)).enabled = true ∧ (pairConfig im (pairOf 2)).enabled = false
      ∧ (pairConfig im (pairOf 0)).minBeams ≤ beamCount (·.raw) (curtain d 0)
      ∧ beamCount (·.raw) (curtain d 1) < (pairConfig im (pairOf 1)).minBeams :=
  ⟨⟨rfl, rfl⟩, (shaded_agrees _ _).1, (shaded_agrees _ _).2, rfl, rfl, rfl, by decide, by decide +kernel, rfl,
    by decide, by decide, by decide, by decide⟩

theorem witness_ListeningEndsInRunning :
    let d : Device := { station .listening .camera with
      cfl := { (station .listening .camera).cfl with listeningDeadline := some now } }
    FoundAt now (alone d) (found d) ∧ OnlyRunningSends (found d) ∧ (found d).cfl.station = .listening
      ∧ (found d).cfl.listeningDeadline = some now ∧ isAfter now (found d).clock = false
      ∧ (found d).cfl.number = some 12 ∧ (found d).cfl.image = some image ∧ (found d).liu.collided = none := by decide

/-- Each pattern's condition, and the phase deadlines of the two patterns that blink. -/
theorem witness_IndicatorPatterns :
    let blink : Device := { ready with
      cdu := { ready.cdu with state := .locked },
      cfl := { ready.cfl with indicator := .slowBlink, phaseDeadline := some now } }
    let pulse : Device := { station .silent .camera with
      cfl := { (station .listening .camera).cfl with indicator := .shortPulse, phaseDeadline := some now } }
    (station .configFault .camera).cfl.station = .configFault ∧ blink.cfl.station = .running ∧ blink.cdu.state = .locked
      ∧ pulse.cfl.station = .listening ∧ pulse.cdu.state ≠ .locked ∧ pulse.fdu.state ≠ .locked
      ∧ ready.cfl.station = .running ∧ (∀ c, (curtain ready c).dead = false)
      ∧ (∀ x, x = Side.up ∨ x = .down → (verifyD ready x).isSome = false)
      ∧ FoundAt now (alone blink) (found blink) ∧ (found blink).cfl.phaseDeadline = some now
      ∧ isAfter now (found blink).clock = false ∧ (found blink).cfl.indicator = indicatorPattern (found blink)
      ∧ (found blink).cfl.indicator = .slowBlink
      ∧ FoundAt now (alone pulse) (found pulse) ∧ (found pulse).cfl.phaseDeadline = some now
      ∧ (found pulse).cfl.indicator = indicatorPattern (found pulse) ∧ (found pulse).cfl.indicator = .shortPulse := by
  refine ⟨?_, ?_, ?_, ?_, ?_, ?_, ?_, ?_, fun x h => ?_, ?_⟩
  case refine_9 => rcases h with rfl | rfl <;> rfl
  all_goals decide

/-- An enabled pair, both levels, an unmasked and a masked beam; a station that does not evaluate. -/
theorem witness_RawLevelTimes :
    let clear := mast
    let masked := setCurtain 0 (withBeam (curtain mast 0) 7 { Beam.reset true with masked := true }) mast
    FoundAt now (alone clear) (found clear) ∧ Evaluated (found clear) 0 pair ∧ (found clear).cfl.image = some image
      ∧ ((curtain (found clear) 0).beams.get 0).raw = !true
      ∧ FoundAt now (alone masked) (found masked) ∧ Evaluated (found masked) 0 pair
      ∧ ((curtain (found masked) 0).beams.get 7).raw = !false
      ∧ FoundAt now (alone Device.reset) (found Device.reset) ∧ stationWorks (found Device.reset) = false
      ∧ ((curtain (found Device.reset) 3).beams.get 7).raw = !true
      ∧ stationWorks (found clear) = true ∧ enabledPair (found clear) (pairOf 2) = none := by decide

/-- The second beam reaches min beams; the first does not. -/
theorem witness_BreakBegins :
    let calm := found mast
    let one := found (broken 0 1 .clear mast)
    FoundAt now (alone mast) calm ∧ Evaluated calm 0 pair ∧ calm.cfl.image = some image
      ∧ (curtain calm 0).breakState = .clear ∧ (curtain calm 0).dead = false
      ∧ pair.minBeams ≤ beamCount usable (curtain calm 0) ∧ ((curtain calm 0).beams.get 7).raw = false
      ∧ ((curtain calm 0).beams.get 7).masked = false ∧ ((curtain calm 0).beams.get 7).forceMask = false
      ∧ beamCount interrupted (withBeam (curtain calm 0) 7 (Beam.reset true)) < pair.minBeams
      ∧ FoundAt now (alone (broken 0 1 .clear mast)) one ∧ Evaluated one 0 pair ∧ one.cfl.image = some image
      ∧ (curtain one 0).breakState = .clear ∧ (curtain one 0).dead = false
      ∧ pair.minBeams ≤ beamCount usable (curtain one 0) ∧ ((curtain one 0).beams.get 7).raw = false
      ∧ ((curtain one 0).beams.get 7).masked = false ∧ ((curtain one 0).beams.get 7).forceMask = false
      ∧ pair.minBeams ≤ beamCount interrupted (withBeam (curtain one 0) 7 (Beam.reset true)) := by decide

/-- One beam of two leaves a pending break, one beam of three does not end it. -/
theorem witness_PendingBreakIgnored :
    let two := found (broken 0 2 .pending mast)
    let three := found (broken 0 3 .pending mast)
    FoundAt now (alone (broken 0 2 .pending mast)) two ∧ Evaluated two 0 pair
      ∧ (curtain two 0).breakState = .pending ∧ (curtain two 0).dead = false
      ∧ pair.minBeams ≤ beamCount usable (curtain two 0) ∧ (sequencer two (pairOf 0)).expiryHeld = false
      ∧ ((curtain two 0).beams.get 0).raw = true ∧ ((curtain two 0).beams.get 0).masked = false
      ∧ ((curtain two 0).beams.get 0).forceMask = false
      ∧ beamCount interrupted (withBeam (curtain two 0) 0 (Beam.reset false)) < pair.minBeams
      ∧ FoundAt now (alone (broken 0 3 .pending mast)) three ∧ Evaluated three 0 pair
      ∧ (curtain three 0).breakState = .pending ∧ (curtain three 0).dead = false
      ∧ pair.minBeams ≤ beamCount usable (curtain three 0) ∧ (sequencer three (pairOf 0)).expiryHeld = false
      ∧ ((curtain three 0).beams.get 0).raw = true ∧ ((curtain three 0).beams.get 0).masked = false
      ∧ ((curtain three 0).beams.get 0).forceMask = false
      ∧ pair.minBeams ≤ beamCount interrupted (withBeam (curtain three 0) 0 (Beam.reset false)) := by decide

/-- A passage of station 7's example under way: t1 and t2 taken, the last break BROKEN with two beams. -/
def passing (c : Fin 4) (st : SequencerState) (d : Device) : Device :=
  withSeq 0 { Sequencer.reset with state := st, t1 := some 1000#32, t2 := some 2000#32 } (broken c 2 .broken d)

/-- What a curtain must be for a beam clearing to end the passage of `passing`. -/
abbrev Passes (pc : PairConfig) (c : Fin 4) (d : Device) : Prop :=
  Evaluated d c pc ∧ d.rqs.records.length < 32 ∧ (curtain d c).breakState = .broken ∧ (curtain d c).dead = false
    ∧ pc.minBeams ≤ beamCount usable (curtain d c) ∧ ((curtain d c).beams.get 0).raw = true
    ∧ ((curtain d c).beams.get 0).masked = false ∧ ((curtain d c).beams.get 0).forceMask = false
    ∧ beamCount interrupted (withBeam (curtain d c) 0 (Beam.reset false)) < pc.minBeams
    ∧ (sequencer d 0).t1 = some 1000#32 ∧ (sequencer d 0).t2 = some 2000#32

/-- The inner break end in INNER, in RUNNING with a place in the queue and in SILENT; the outer break end in DEPARTING,
in both roles. -/
theorem witness_PassageRecorded :
    let a := passing 1 .inner mast
    let b := passing 1 .inner (station .silent .approach)
    let c := passing 0 .departing mast
    let e := passing 0 .departing ready
    (∀ x ∈ [(a, (1 : Fin 4)), (b, 1), (c, 0), (e, 0)], Passes pair x.2 (found x.1) ∧ FoundAt now (alone x.1) (found x.1))
      ∧ (found a).cfl.role = some .approach ∧ (found c).cfl.role = some .approach ∧ (found e).cfl.role = some .camera
      ∧ isOuter 1 = false ∧ (sequencer (found a) 0).state = .inner ∧ (sequencer (found a) 0).pendingOuter = none
      ∧ (found a).cfl.station = .running ∧ (found a).fx.queue.length < 8 ∧ (found b).cfl.station ≠ .running
      ∧ isOuter 0 = true ∧ (sequencer (found c) 0).state = .departing := by decide +kernel

/-- A slow passage of the inner curtain at the gantry, its verify event at 2,000 with 2,000 mm/s. -/
def verifying (im : Image) (tracks : List Track) : Device :=
  let d := withSeq 0 { Sequencer.reset with state := .inner, t1 := some (2000#32 - 1000000#32), t2 := some 2000#32 }
    (broken 1 2 .broken ready)
  { d with cfl := { d.cfl with image := some im }, htk := { d.htk with tracks := tracks } }

/-- Its verify entry: beam 1 alone is interrupted when the break ends, at 4,950 mm. -/
def verifyEvent : VerifyEntry :=
  { d := 2000, t2 := 2000#32, v := 2000, band := some (4950, 4950), partialHeight := false, forced := false }

/-- A track 100 µs from what the event predicts. -/
def verifiable (st : TrackState) : Track :=
  { track with state := st, pred := { prediction with vg := 2000, tPred := 1001900#32 } }

/-- In the camera role: another track's event, no fitting track within reach and out of it, a track in EXPOSING and one
in ARMED whose burst has its pulses ahead. -/
theorem witness_PassageRecorded_verify :
    let other := verifying { image with ownTrack := 1 } []
    let none_ := verifying image []
    let slow : Device := withSeq 0
      { Sequencer.reset with state := .inner, t1 := some (2000#32 - 4000000#32), t2 := some 2000#32 }
      (verifying { image with pair0 := { pair with d := 20000 } } [])
    let fitting := fun st => verifying image [verifiable st]
    let far : Burst := { burst with frames := burst.frames.map fun f => { f with pulse := 9840#32 } }
    let armed : Device := { fitting .armed with cdu := { ready.cdu with bursts := [far] } }
    (∀ d ∈ [other, none_, fitting .exposing, armed],
      FoundAt now (alone d) (found d) ∧ Evaluated (found d) 1 pair ∧ (found d).cfl.role = some .camera
        ∧ (found d).rqs.records.length < 32 ∧ (curtain (found d) 1).breakState = .broken
        ∧ (curtain (found d) 1).dead = false ∧ pair.minBeams ≤ beamCount usable (curtain (found d) 1)
        ∧ ((curtain (found d) 1).beams.get 0).raw = true ∧ ((curtain (found d) 1).beams.get 0).masked = false
        ∧ ((curtain (found d) 1).beams.get 0).forceMask = false
        ∧ beamCount interrupted (withBeam (curtain (found d) 1) 0 (Beam.reset false)) < pair.minBeams
        ∧ (sequencer (found d) 0).state = .inner ∧ (sequencer (found d) 0).pendingOuter = none)
      ∧ pair.track ≠ 1 ∧ pair.track = image.ownTrack
      ∧ outOfReach image (found none_).clock (predictVerify .verifyOnly verifyEvent) = false
      ∧ (found none_).htk.tracks.length < 16
      ∧ isAfter ((predictVerify .verifyOnly verifyEvent).tPred - BitVec.ofNat 32 (image.planHorizon * 1000))
          (found none_).clock = true
      ∧ FoundAt now (alone slow) (found slow) ∧ Evaluated (found slow) 1 { pair with d := 20000 }
      ∧ outOfReach image (found slow).clock (predictVerify .verifyOnly { verifyEvent with d := 20000, v := 500 }) = true
      ∧ (∀ st ∈ [TrackState.exposing, .armed],
          (found (fitting st)).htk.tracks.filterMap (verifyFit pair.side verifyEvent) = [(verifiable st, 100)]
            ∧ findTrack (found (fitting st)) 40#8 = some (verifiable st))
      ∧ timeDiff (predictVerify .verified verifyEvent).tPred (verifiable .armed).pred.tPred = 100
      ∧ (∀ b ∈ (found armed).cdu.bursts, ∀ f ∈ b.frames, isAfter (f.pulse + 100#32) (found armed).clock = true) := by
  decide +kernel

/-- Beam 0 of C0 about to be masked, and a masked one about to be unmasked. -/
theorem witness_MaskingTimes :
    let stuck := setCurtain 0 (withBeam (curtain mast 0) 0 { Beam.reset true with stuckDeadline := some now }) mast
    let healed := setCurtain 0
      (withBeam (curtain mast 0) 0 { Beam.reset false with masked := true, unmaskDeadline := some now }) mast
    FoundAt now (alone stuck) (found stuck) ∧ Evaluated (found stuck) 0 pair
      ∧ (curtain (found stuck) 0).breakState = .clear ∧ isAfter now (found stuck).clock = false
      ∧ ((curtain (found stuck) 0).beams.get 0).stuckDeadline = some now
      ∧ beamCount interrupted (withBeam (curtain (found stuck) 0) 0 { Beam.reset true with masked := true })
          < pair.minBeams
      ∧ FoundAt now (alone healed) (found healed) ∧ Evaluated (found healed) 0 pair
      ∧ (curtain (found healed) 0).breakState = .clear
      ∧ ((curtain (found healed) 0).beams.get 0).unmaskDeadline = some now
      ∧ beamCount interrupted (withBeam (curtain (found healed) 0) 0 (Beam.reset false)) < pair.minBeams := by decide

/-- A pending break of a curtain of pair 0 whose deadline has come, with its sequencer in a state. -/
def validating (c : Fin 4) (q : Sequencer) : Device := withSeq 0 q (broken c 2 .pending mast)

theorem witness_ValidBreakMovesSequencer :
    let idle := Sequencer.reset
    let outer : Sequencer := { idle with state := .outer, t1 := some 1000#32 }
    let inner : Sequencer := { outer with state := .inner, t2 := some 2000#32 }
    let leaving : Sequencer := { outer with state := .departing }
    (∀ x ∈ [((0 : Fin 4), idle), (1, idle), (1, outer), (0, inner), (0, leaving), (1, leaving)],
      let d := validating x.1 x.2
      FoundAt now (alone d) (found d) ∧ enabledPair (found d) (pairOf x.1) = some pair
        ∧ (curtain (found d) x.1).validationDeadline = some now ∧ isAfter now (found d).clock = false
        ∧ (curtain (found d) x.1).breakStart = some 4000#32 ∧ sequencer (found d) (pairOf x.1) = x.2)
      ∧ isOuter 0 = true ∧ isOuter 1 = false ∧ inner.pendingOuter = none ∧ leaving.t2 = none := by decide +kernel

/-- The orphan deadline with the inner curtain PENDING, and with it CLEAR in OUTER and in DEPARTING, in both roles. -/
theorem witness_OrphanDeadline :
    let q : Sequencer := { Sequencer.reset with state := .outer, t1 := some 1000#32, orphanDeadline := some now }
    let held := withSeq 0 q (broken 1 2 .pending mast)
    let lost := withSeq 0 q mast
    let camera := withSeq 0 q ready
    let leaving := withSeq 0 { q with state := .departing } mast
    (∀ d ∈ [held, lost, camera, leaving],
      FoundAt now (alone d) (found d) ∧ (sequencer (found d) 0).orphanDeadline = some now
        ∧ isAfter now (found d).clock = false ∧ (sequencer (found d) 0).t1 = some 1000#32
        ∧ (found d).rqs.records.length < 32)
      ∧ (sequencer (found held) 0).state = .outer ∧ (curtain (found held) (innerOf 0)).breakState = .pending
      ∧ (curtain (found lost) (innerOf 0)).breakState ≠ .pending ∧ (found lost).cfl.role = some .approach
      ∧ (found camera).cfl.role = some .camera ∧ (sequencer (found camera) 0).state = .outer
      ∧ (sequencer (found leaving) 0).state = .departing
      ∧ (curtain (found leaving) (outerOf 0)).breakState ≠ .pending := by decide +kernel

/-- The times of station 7's example, with dt at 0 and at the orphan limit as bounds. -/
theorem witness_PassageSpeed :
    ((1000#32 : Time) - 1000#32).toNat = 0 ∧ ((5024136#32 : Time) - 5000040#32).toNat ≠ 0 ∧ 1000 ≤ 4000
      ∧ ((8000000#32 : Time) - 0#32).toNat ≤ 4000 * 2000 := by decide

/-- The union empty, and the union of beams 3 to 5. -/
theorem witness_HeightBand :
    (∀ i : Fin 8, ¬ ((0#8 : Byte).getLsbD i = true)) ∧ (0x38#8 : Byte).getLsbD 3 = true ∧ pair.heights.getD 3 0 ≠ 0 := by
  decide

/-- An IDLE line. -/
def idleLine (d : Device) : Device := { d with liu := { d.liu with busy := false } }

/-- A line whose quiet deadline comes at the instant of the tests, pair A holding a copy of `body` with its mark at
4,800. -/
def quietLine (body : List Byte) (d : Device) : Device :=
  { d with liu := { d.liu with
      quietDeadline := some now,
      pairA := { d.liu.pairA with
        copy := { Copy.fresh false with
          progress := .ended, mark := some 4800#32, firstSeen := some 4792#32,
          bits := (body ++ bytesOf 2 (lineCrc body).toNat).flatMap lineBits } } } }

/-- The PRESENCE of station 7 with its mark on track 2 (11, At the masts). -/
def presence : PresenceFrame :=
  { role := .approach, period := 200, flashLockout := false, cameraLockout := false,
    marks := [{ pair := 0, track := 2, side := .up, d := 400000, b := 2000, dead := false }] }

/-- Its body, the bits that the layout leaves open at 0. -/
def presenceOf (n : Nat) : List Byte := (presenceBody n .approach 200 false false presence.marks).set 5 0#8

theorem witness_TransitionBeginsBusyPeriod :
    let d := found (idleLine ready)
    FoundAt now (alone (idleLine ready)) d ∧ stationWorks d = true ∧ (linePair d .a).condition = .normal
      ∧ (linePair d .b).condition = .normal ∧ d.liu.busy = false := by decide

/-- Pair A NORMAL on a BUSY line, pair B JABBERING, and a station that is loading; a copy not begun, one receiving with
527 bits and one with 528, one noted and one ended. -/
theorem witness_TransitionKeepsBusy :
    let b : Device := { ready with liu := { ready.liu with pairB := { ready.liu.pairB with condition := .jabbering } } }
    let receiving := fun n : Nat => { Copy.fresh false with progress := .receiving, bits := List.replicate n true }
    FoundAt now (alone b) (found b) ∧ stationWorks (found b) = true ∧ (linePair (found b) .a).condition = .normal
      ∧ (found b).liu.busy = true ∧ (linePair (found b) .b).condition = .jabbering
      ∧ FoundAt now (alone Device.reset) (found Device.reset) ∧ stationWorks (found Device.reset) = false
      ∧ (Copy.fresh false).noted = false ∧ (Copy.fresh false).progress = .none ∧ (Copy.fresh false).matched = 0
      ∧ (receiving 527).noted = false ∧ (receiving 527).progress = .receiving ∧ (receiving 527).bits.length < 528
      ∧ 528 ≤ (receiving 528).bits.length ∧ { receiving 0 with noted := true }.noted = true
      ∧ { receiving 0 with progress := .ended }.progress = .ended := by decide +kernel

/-- An activity of exactly 1,000 µs beside a silent pair, beside one with a transition 9 µs ago, and on an IDLE line; and
exactly 10 µs of silence. -/
theorem witness_JabberingComesAndGoes :
    let a : Device := { ready with liu := { ready.liu with
      quietDeadline := some 5004#32, pairA := { ready.liu.pairA with activityStart := some 4000#32, silenceFrom := some 4990#32 } } }
    let b : Device := { a with liu := { a.liu with pairB := { a.liu.pairB with silenceFrom := some 4991#32 } } }
    let c : Device := { a with liu := { a.liu with quietDeadline := none } }
    (∀ d ∈ [a, b, c],
      FoundAt now (alone d) (found d) ∧ (linePair (found d) .a).condition = .normal
        ∧ (linePair (found d) .a).activityStart = some 4000#32 ∧ isAfter (4000#32 + 1000#32) (found d).clock = false)
      ∧ (linePair (found a) .b).silenceFrom = none ∧ (found a).liu.quietDeadline ≠ none
      ∧ (linePair (found b) .b).silenceFrom = some 4991#32 ∧ isAfter (4991#32 + 10#32) (found b).clock = true
      ∧ (found c).liu.quietDeadline = none
      ∧ (linePair (found a) .a).silenceFrom = some 4990#32 ∧ isAfter (4990#32 + 10#32) (found a).clock = false := by
  decide

/-- The preferred pair at 64, its partner at 32, with a transmitter that waits. -/
theorem witness_IdleInstantWithoutFrame :
    let d : Device := { ready with liu := { ready.liu with
      quietDeadline := some now, transmitter := .waitIdle, pairA := { ready.liu.pairA with quality := 64 },
      pairB := { ready.liu.pairB with quality := 32 } } }
    FoundAt now (alone d) (found d) ∧ (found d).liu.quietDeadline = some now ∧ isAfter now (found d).clock = false
      ∧ (judgeCopy (found d).liu.ownDrive (found d).liu.pairA).1 ≠ .good
      ∧ (judgeCopy (found d).liu.ownDrive (found d).liu.pairB).1 ≠ .good := by decide

theorem witness_QualityCounts : (255 : Nat) ≤ 255 ∧ (0 : Nat) ≤ 255 ∧ (247 : Nat) ≤ 247 ∧ Judgement.bad ≠ .good := by
  decide

/-- A RELEASE with the own number is heard in RUNNING, LISTENING and SILENT; in RUNNING a CLAIM of a live track waits. -/
theorem witness_ClashSilences :
    let r := releaseBody 12 9#8
    let waiting : Device := holding { track with claimStatus := .queued } ready
    let a := quietLine r { waiting with fx := { waiting.fx with queue := [entry 0 (.claim claim)] } }
    let b := quietLine r (station .listening .camera)
    let c := quietLine r (station .silent .camera)
    (∀ d ∈ [a, b, c],
      FoundAt now (alone d) (found d) ∧ (found d).liu.quietDeadline = some now ∧ isAfter now (found d).clock = false
        ∧ acceptedCopy (found d) = some (4800#32, r) ∧ frameStation r = ownNumber (found d)
        ∧ (found d).liu.ownDrive ≠ .sent)
      ∧ (found a).cfl.station = .running ∧ (found b).cfl.station = .listening ∧ (found c).cfl.station = .silent
      ∧ (∃ e ∈ (found a).fx.queue, e.out = .claim claim ∧ e.withdrawn = false ∧ claim.trackId = track.id) := by
  decide +kernel

/-- The quiet deadline has come and the idle instant accepts a frame. -/
abbrev Hears (body : List Byte) (d : Device) : Prop :=
  FoundAt now (alone d) (found d) ∧ (found d).liu.quietDeadline = some now ∧ isAfter now (found d).clock = false
    ∧ acceptedCopy (found d) = some (4800#32, body)

/-- Station 7 heard before, and in a state since. -/
def known (st : PeerState) (d : Device) : Device :=
  { d with ptb := { d.ptb with peers := d.ptb.peers.set 6 { presentEntry presence 0#32 with state := st } } }

/-- Station 7, ABSENT before and PRESENT before. -/
theorem witness_PresenceRefreshesPeer :
    let body := presenceOf 7
    let a := quietLine body ready
    let b := known .present a
    (∀ d ∈ [a, b], Hears body d ∧ frameStation body = (6 : Fin 31).val + 1 ∧ (6 : Fin 31).val + 1 ≠ ownNumber (found d))
      ∧ readFrame body = some (.presence presence) ∧ ((found a).ptb.peers.get 6).state = .absent
      ∧ ((found b).ptb.peers.get 6).state = .present := by decide +kernel

/-- A SIGHTING of the worked passage's far mast, an age of 4,234 µs before its mark, the bits left open at 0. -/
def sightingOf (c : SightingContents) : List Byte := (sightingBody 7 c 4234).set 14 0#8

/-- That SIGHTING heard by the gantry. -/
def sighted (tracks : List Track) (st : PeerState) : Device :=
  quietLine (sightingOf sighting) (known st { ready with htk := { ready.htk with tracks := tracks } })

/-- What station 7 saw, as the gantry keeps it. -/
def seen (stale : Bool) : Sighting :=
  { station := 7, pair := 0, d := 400000, side := .up, seq := 41#8, t2 := 566#32, v := 83001, band := some (5250, 5550),
    partialHeight := false, forced := false, staleSource := stale }

/-- A track with the sighting of another station 50 m farther out, from which this one is 20 µs early. -/
def sightedTrack (st : TrackState) : Track :=
  { track with
    state := st, pred := { prediction with tPred := 4819885#32 },
    sightings := [{ seen false with station := 6, d := 450000, seq := 9#8, t2 := 4294365480#32 }] }

/-- Disregarded from a station ABSENT, without the mark and in a track that holds it; none fits, within reach and, from a
mark far out, beyond it; one track fits alone, in ARMED and in PREDICTED with its horizon ahead; from a STALE peer. -/
theorem witness_PresenceRefreshesPeer_sighting :
    let body := sightingOf sighting
    let holds := { sightedTrack .predicted with sightings := [seen false] }
    let slow := sightingOf { sighting with v := 500 }
    let far := quietLine slow (known .present ready)
    let again := predict (joinSightings (seen false) (sightedTrack .predicted).sightings) none
    (∀ d ∈ [sighted [] .absent, sighted [] .present, sighted [] .stale, sighted [holds] .present,
        sighted [sightedTrack .armed] .present, sighted [sightedTrack .predicted] .present],
      Hears body d ∧ (found d).cfl.image = some image ∧ (found d).cfl.role = some .camera ∧ ownNumber (found d) = 12)
      ∧ frameStation body = (6 : Fin 31).val + 1 ∧ sighting.track = image.ownTrack
      ∧ ((found (sighted [] .absent)).ptb.peers.get 6).state = .absent
      ∧ ((found (sighted [] .present)).ptb.peers.get 6).state = .present
      ∧ ((found (sighted [] .stale)).ptb.peers.get 6).state = .stale
      ∧ presence.marks.find? (fun m => m.pair == sighting.pair && m.track == sighting.track) = presence.marks.head?
      ∧ presence.marks.find? (fun m => m.pair == 1 && m.track == sighting.track) = none
      ∧ 4800#32 - BitVec.ofNat 32 4234 = (566#32 : Time)
      ∧ outOfReach image now (predictOneMark (seen false)) = false
      ∧ isAfter ((predictOneMark (seen false)).tPred - BitVec.ofNat 32 (image.planHorizon * 1000)) now = true
      ∧ Hears slow far ∧ outOfReach image now (predictOneMark { seen false with v := 500 }) = true
      ∧ (∀ st ∈ [TrackState.armed, .predicted],
          [sightedTrack st].filterMap (sightingFit (seen false)) = [(sightedTrack st, 20)])
      ∧ (again.any fun x => !outOfReach image now x.1
          && isAfter (x.1.tPred - BitVec.ofNat 32 (image.planHorizon * 1000)) now) = true := by decide +kernel

/-- A CLAIM with its burst 5,000 µs after its mark, the bits left open at 0. -/
def claimOf (n : Nat) : List Byte := (claimBody n claim 5000).set 4 1#8

/-- Station 7's CLAIM heard by a station that holds some. -/
def claimed (claims : List NeighbourClaim) : Device :=
  quietLine (claimOf 7) { ready with crs := { claims := claims, nextJoin := 8 } }

/-- A claim of another station that expires at an instant. -/
def neighbour (n : Nat) (expiry : Time) : NeighbourClaim :=
  { key := { station := 8, trackId := BitVec.ofNat 8 n }, track := 2, flash := true, centre := 5000#32, n := 1, s := 4840,
    e := 40, tol := 95, flashed := [0], join := n, expiry := expiry }

/-- Taken by an empty list, in the place of its key, and by a full list whose soonest entry expires sooner, or later; not
taken from a track that is no neighbour. -/
theorem witness_PresenceRefreshesPeer_claim :
    let body := claimOf 7
    let expiry : Time := 4800#32 + 5000#32 + 5056#32
    let old := { neighbour 0 6000#32 with key := { station := 7, trackId := 40#8 } }
    let full := fun first : Time => (List.range 8).map fun n => neighbour n (if n = 0 then first else 60000#32)
    (∀ d ∈ [claimed [], claimed [old], claimed (full 6000#32), claimed (full 50000#32)],
      Hears body d ∧ (found d).cfl.role = some .camera ∧ (found d).cfl.image = some image ∧ ownNumber (found d) = 12
        ∧ (∀ tr ∈ (found d).htk.tracks, tr.state ≠ .planned ∧ tr.state ≠ .armed ∧ tr.state ≠ .exposing))
      ∧ frameStation body = (6 : Fin 31).val + 1 ∧ image.adjacency.getLsbD (claim.track - 1) = true
      ∧ isAfter expiry now = true ∧ timeDiff expiry now < 10000000
      ∧ { image with adjacency := 0#8 }.adjacency.getLsbD (claim.track - 1) = false
      ∧ [old].find? (fun c => c.key == { station := 7, trackId := 40#8 }) = some old
      ∧ (∀ x ∈ full 6000#32, x.key ≠ old.key ∧ (x = neighbour 0 6000#32 ∨ isAfter x.expiry 6000#32 = true))
      ∧ isAfter expiry 6000#32 = true
      ∧ (∀ x ∈ full 50000#32, x.key ≠ old.key ∧ (x = neighbour 0 50000#32 ∨ isAfter x.expiry 50000#32 = true))
      ∧ isAfter expiry 50000#32 = false := by decide +kernel

/-- The RELEASE of a claim's key; the own CLAIM heard back, and an own RELEASE. -/
theorem witness_PresenceRefreshesPeer_own :
    let own := fun b : List Byte => quietLine b { ready with liu := { ready.liu with ownDrive := .sent } }
    Hears (releaseBody 7 40#8) (quietLine (releaseBody 7 40#8) ready)
      ∧ readFrame (releaseBody 7 40#8) = some (.release 40#8)
      ∧ Hears (claimOf 12) (own (claimOf 12)) ∧ (readFrame (claimOf 12)).isSome = true
      ∧ frameStation (claimOf 12) = ownNumber (found (own [])) ∧ (found (own [])).liu.ownDrive = .sent
      ∧ Hears (releaseBody 12 40#8) (own (releaseBody 12 40#8)) := by decide +kernel

theorem witness_LineFrameRoundTrip :
    bodyAgrees (sightingBody 7 sighting 4234) = true ∧ bodyAgrees (releaseBody 12 40#8) = true
      ∧ bodyAgrees (presenceOf 7) = true ∧ isBefore 4792#32 (4800#32 - 8#32) = false := by decide +kernel

/-- The worked passage's PRESENCE, SIGHTING and CLAIM, and both ends of the ranges of their fields. -/
theorem witness_FrameFieldsRoundTrip :
    1 ≤ 31 ∧ 50 ≤ presence.period ∧ presence.period ≤ 1000 ∧ (presence.marks.map (·.pair)).Pairwise (· < ·)
      ∧ (∀ m ∈ presence.marks, 1 ≤ m.track ∧ m.track ≤ 4 ∧ 500 ≤ m.d ∧ m.d ≤ 1000000 ∧ 1000 ≤ m.b ∧ m.b ≤ 4000)
      ∧ 1 ≤ sighting.track ∧ sighting.track ≤ 4 ∧ 500 ≤ sighting.v ∧ sighting.v ≤ 120000 ∧ 4234 ≤ 65535
      ∧ (sighting.band.all fun x => decide (1 ≤ x.1 ∧ x.1 ≤ x.2 ∧ x.2 ≤ 8000)) = true
      ∧ 1 ≤ claim.track ∧ claim.track ≤ 4 ∧ 1 ≤ claim.n ∧ claim.n ≤ 4 ∧ claim.s % 2 = 0 ∧ 2 ≤ claim.s
      ∧ claim.s ≤ 4000000 ∧ 2 ≤ claim.e ∧ claim.e ≤ 2000 ∧ 50 ≤ claim.tol ∧ claim.tol ≤ 187900
      ∧ ascendingBelow claim.n claim.flashed = true := by decide

/-! #### The outbound queue and the transmitter -/

def sending (q : List QueueEntry) (l : Liu) (d : Device) : Device := { d with fx := { d.fx with queue := q }, liu := l }

def eight (out : Outbound) : Device := sending ((List.range 8).map fun i => entry i out) ready.liu ready

/-- Eight PRESENCE entries before a CLAIM, and before another PRESENCE. -/
theorem witness_FullQueueEvicts :
    let d := eight .presence
    d.fx.queue.length = 8
      ∧ d.fx.queue.Pairwise (fun x y => classOf x.out < classOf y.out
          ∨ (classOf x.out = classOf y.out ∧ x.order < y.order))
      ∧ (∃ e ∈ d.fx.queue, e.onLine = false ∧ classOf (.claim claim) < classOf e.out)
      ∧ (∀ e ∈ d.fx.queue, ¬ classOf .presence < classOf e.out) := by decide

/-- Ages 65,535 and 65,536 and the greatest there is, leads 0, −1 and 4,000,001. -/
theorem witness_TimeFieldsFixed :
    65535 < 2 ^ 32 ∧ (65535#32 : Time) = sighting.t2 + BitVec.ofNat 32 65535
      ∧ (65536#32 : Time) = sighting.t2 + BitVec.ofNat 32 65536
      ∧ (4294967295#32 : Time) = sighting.t2 + BitVec.ofNat 32 4294967295 ∧ 4294967295 < 2 ^ 32
      ∧ timeDiff claim.centre claim.centre = 0 ∧ timeDiff claim.centre (claim.centre + 1#32) = -1
      ∧ timeDiff claim.centre (claim.centre - 4000001#32) = 4000001 := by decide

theorem witness_SlotEndStartsFrame :
    let d := sending [entry 3 (.release 40#8), entry 4 .presence]
      { ready.liu with transmitter := .defer, slotEnd := some now } ready
    FoundAt now (alone d) (found d) ∧ (found d).cfl.station = .running ∧ (found d).liu.transmitter = .defer
      ∧ (found d).liu.slotEnd = some now ∧ isAfter now (found d).clock = false
      ∧ (found d).fx.queue = [entry 3 (.release 40#8), entry 4 .presence]
      ∧ (∀ x ∈ [entry 4 .presence], x.order ≠ (entry 3 (.release 40#8)).order)
      ∧ fixFrame (found d) ((found d).clock + 8#32) (.release 40#8) = .supplied (releaseBody 12 40#8) := by
  decide +kernel

/-- A frame in SEND: the first mismatch, a collision below eight, and the eighth. -/
theorem witness_MismatchesCollide :
    let sends : Liu := { ready.liu with transmitter := .send, frameInHand := some 3 }
    let partner : Liu := { sends with pairB := { sends.pairB with readbackMatch := false } }
    let q := [entry 3 (.release 40#8), entry 4 .presence]
    let a := sending q sends ready
    let b := sending q { partner with collisions := 6 } ready
    let c := sending q { partner with collisions := 7 } ready
    (∀ d ∈ [a, b, c],
      FoundAt now (alone d) (found d) ∧ (found d).liu.transmitter = .send
        ∧ (found d).liu.frameInHand = some (entry 3 (.release 40#8)).order ∧ (found d).fx.queue = q
        ∧ (linePair (found d) .a).readbackMatch = true)
      ∧ (linePair (found a) (otherPair .a)).readbackMatch = true
      ∧ (linePair (found b) (otherPair .a)).readbackMatch = false ∧ (found b).liu.collisions < 7
      ∧ due (expiryOf (entry 3 (.release 40#8)).out) (found b).clock = false ∧ 7 ≤ (found c).liu.collisions := by
  decide +kernel

/-- A PRESENCE sent, and a CLAIM with a revision pending. -/
theorem witness_FrameSentLeavesQueue :
    let f : DrivenFrame := { mark := 4900#32, body := [], crc := 0#16, ends := now }
    let sends : Liu := { ready.liu with transmitter := .send, frameInHand := some 3, driven := some f }
    let revised : QueueEntry := { entry 3 (.claim claim) with revision := some claim }
    let a := sending [entry 3 .presence] sends ready
    let b := sending [revised, entry 4 .presence] sends ready
    (∀ d ∈ [a, b],
      FoundAt now (alone d) (found d) ∧ (found d).liu.transmitter = .send ∧ (found d).liu.driven = some f
        ∧ (found d).liu.frameInHand = some 3 ∧ isAfter f.ends (found d).clock = false)
      ∧ (found a).fx.queue = [entry 3 .presence] ∧ (found b).fx.queue = [revised, entry 4 .presence]
      ∧ (entry 4 .presence).order ≠ revised.order ∧ revised.withdrawn = false ∧ revised.revision = some claim := by
  decide +kernel

/-- A SIGHTING before and after its expiry deadline of 65,528, and one on the line. -/
theorem witness_EntryExpires :
    let late : Outbound := .sighting { sighting with t2 := now - 65528#32 }
    let e := entry 3 late
    let d := sending [e, { entry 4 late with onLine := true }, entry 5 (.sighting sighting)] ready.liu ready
    FoundAt now (alone d) (found d) ∧ findEntry (found d) 3 = some e ∧ e.onLine = false
      ∧ due (expiryOf e.out) (found d).clock = true ∧ (∀ c, e.out ≠ .claim c)
      ∧ findEntry (found d) 4 = some { entry 4 late with onLine := true }
      ∧ findEntry (found d) 5 = some (entry 5 (.sighting sighting))
      ∧ due (expiryOf (.sighting sighting)) (found d).clock = false :=
  ⟨⟨rfl, by decide +kernel⟩, by decide +kernel, rfl, by decide +kernel, fun _ => nofun, by decide +kernel,
    by decide +kernel, by decide +kernel⟩

/-- A PRESENCE still queued, the same with a collision counted, an empty queue, and a full one. -/
theorem witness_PresenceSchedule :
    let scheduled := fun d : Device => { d with fx := { d.fx with presenceDeadline := some now } }
    let a := scheduled (sending [entry 3 .presence] ready.liu ready)
    let k := scheduled (sending [entry 3 .presence] { ready.liu with collisions := 2, collided := some 3 } ready)
    let b := scheduled ready
    let c := scheduled (eight (.release 40#8))
    (∀ d ∈ [a, k, b, c],
      FoundAt now (alone d) (found d) ∧ (found d).cfl.station = .running ∧ (found d).cfl.image = some image
        ∧ (found d).fx.presenceDeadline = some now ∧ isAfter now (found d).clock = false)
      ∧ (found a).fx.queue.find? (fun x => x.out == .presence) = some (entry 3 .presence)
      ∧ (found a).liu.collided = none ∧ (entry 3 .presence).onLine = false
      ∧ (found k).fx.queue.find? (fun x => x.out == .presence) = some (entry 3 .presence)
      ∧ (found k).liu.collided = some (entry 3 .presence).order ∧ (found b).fx.queue = []
      ∧ (found b).liu.transmitter = .empty ∧ (∀ e ∈ (found c).fx.queue, e.out ≠ .presence)
      ∧ 8 ≤ (found c).fx.queue.length := by decide +kernel

theorem witness_PeersAge :
    let stale : PeerEntry := { presentEntry presence 0#32 with staleDeadline := some now }
    let lost : PeerEntry := { presentEntry presence 0#32 with state := .stale, staleDeadline := none, lostDeadline := some now }
    let d : Device := { ready with ptb := { ready.ptb with peers := (ready.ptb.peers.set 0 stale).set 30 lost } }
    FoundAt now (alone d) (found d) ∧ isAfter now (found d).clock = false ∧ (0 : Fin 31).val + 1 ≠ ownNumber (found d)
      ∧ ((found d).ptb.peers.get 0).state = .present ∧ ((found d).ptb.peers.get 0).staleDeadline = some now
      ∧ (30 : Fin 31).val + 1 ≠ ownNumber (found d) ∧ ((found d).ptb.peers.get 30).state = .stale
      ∧ ((found d).ptb.peers.get 30).lostDeadline = some now := by decide +kernel

/-! #### Head tracks -/

/-- Both ends of the ranges, and marks exactly 10,000 mm apart. -/
theorem witness_Predictions :
    let a : Sighting :=
      { station := 7, pair := 0, d := 1000000, side := .up, seq := 41#8, t2 := 0#32, v := 500, band := none,
        partialHeight := false, forced := false, staleSource := false }
    let b : Sighting := { a with d := 990000, v := 120000 }
    500 ≤ a.v ∧ a.v ≤ 120000 ∧ 500 ≤ a.d ∧ a.d ≤ 1000000 ∧ 500 ≤ b.v ∧ b.v ≤ 120000 ∧ 500 ≤ b.d
      ∧ b.d + 10000 ≤ a.d ∧ 500 ≤ 20000 := by decide

theorem witness_PlanFormed :
    500 ≤ prediction.vg ∧ prediction.vg ≤ 120000 ∧ 50 ≤ prediction.tol ∧ prediction.tol ≤ 187900
      ∧ (500 : Nat) ≤ 120000 ∧ (50 : Nat) ≤ 187900 := by decide

/-- The worked track with its arm point ahead, in RUNNING and in SILENT, and a track whose first pulse has passed. -/
theorem witness_HorizonPlansTrack :
    let a := holding track ready
    let b := holding track (station .silent .camera)
    let tr : Track := { track with pred := { prediction with tPred := now } }
    let c := holding tr ready
    let resolved := fun x : Track =>
      (resolvePlan image 12 x.pred.tol [] (formPlan image true none x.pred none).1).plan
    (∀ d ∈ [a, b, c],
      FoundAt now (alone d) (found d) ∧ (found d).cfl.image = some image ∧ (found d).rqs.records.length < 32
        ∧ ownNumber (found d) = 12 ∧ (found d).fdu.state = .idle ∧ (found d).crs.claims = [])
      ∧ findTrack (found a) 40#8 = some track ∧ findTrack (found b) 40#8 = some track ∧ findTrack (found c) 40#8 = some tr
      ∧ track.state = .predicted ∧ track.planHorizon = some now ∧ isAfter now (found a).clock = false
      ∧ tr.state = .predicted ∧ tr.planHorizon = some now ∧ track.claimStatus = .none ∧ tr.claimStatus = .none
      ∧ previousFlash image (found a) 40#8 = none ∧ previousFlash image (found c) 40#8 = none ∧ bandOf track = none
      ∧ isAfter (resolved track).armPoint (found a).clock = true ∧ (found a).cfl.station = .running
      ∧ (found a).fx.queue.length < 8 ∧ (∀ e ∈ (found a).fx.queue, e.out = .presence) ∧ (found b).cfl.station ≠ .running
      ∧ isAfter (resolved tr).armPoint (found c).clock = false
      ∧ timeDiff ((resolved tr).pulses.headD (resolved tr).tPred) (found c).clock < 1800 ∧ tr.frames = [] := by
  decide +kernel

/-- A PREDICTED track without claim in RUNNING, and a PLANNED one with a claim queued in SILENT. -/
theorem witness_MissClosesTrack :
    let announcing : Track := { track with state := .planned, plan := some plan, claimStatus := .queued }
    let a := holding track ready
    let b := holding announcing (station .silent .camera)
    FoundAt now (alone a) (found a) ∧ findTrack (found a) 40#8 = some track ∧ track.state = .predicted
      ∧ track.missDeadline = some now ∧ isAfter now (found a).clock = false ∧ (found a).rqs.records.length < 32
      ∧ track.claimStatus = .none
      ∧ FoundAt now (alone b) (found b) ∧ findTrack (found b) 40#8 = some announcing ∧ announcing.state = .planned
      ∧ announcing.missDeadline = some now ∧ (found b).rqs.records.length < 32 ∧ (found b).cfl.station ≠ .running :=
  ⟨⟨rfl, rfl⟩, by decide +kernel, rfl, rfl, by decide, by decide, rfl, ⟨rfl, rfl⟩, by decide +kernel, rfl, rfl,
    by decide, by decide⟩

/-- The plan of the worked example with its arm point now, an IDLE camera and a LOCKED one. -/
theorem witness_ArmPointArms :
    let planned : Track := { track with state := .planned, plan := some plan }
    let a := holding planned ready
    let b : Device := { a with cdu := { a.cdu with state := .locked, timeouts := 4 } }
    FoundAt now (alone a) (found a) ∧ (found a).cfl.image = some image ∧ findTrack (found a) 40#8 = some planned
      ∧ planned.armPoint = some now ∧ isAfter now (found a).clock = false ∧ 1 ≤ plan.n
      ∧ framesToDrop (busyUntil (found a) 40#8) plan.pulses = 0 ∧ acceptsBurst (found a) = true
      ∧ FoundAt now (alone b) (found b) ∧ (found b).cfl.image = some image ∧ findTrack (found b) 40#8 = some planned
      ∧ framesToDrop (busyUntil (found b) 40#8) plan.pulses = 0 ∧ acceptsBurst (found b) = false
      ∧ planned.claimStatus = .none ∧ (found b).rqs.records.length < 32 :=
  ⟨⟨rfl, rfl⟩, rfl, by decide +kernel, rfl, by decide, by decide +kernel, by decide +kernel, by decide, ⟨rfl, rfl⟩, rfl,
    by decide +kernel, by decide +kernel, by decide, rfl, by decide⟩

/-- Two claims, one at its expiry deadline and one a microsecond before it. -/
theorem witness_NeighbourClaimExpires :
    let c : NeighbourClaim :=
      { key := { station := 14, trackId := 7#8 }, track := 3, flash := true, centre := 4700#32, n := 1, s := 4840,
        e := 40, tol := 95, flashed := [0], join := 0, expiry := now }
    let later : NeighbourClaim := { c with key := { station := 11, trackId := 9#8 }, expiry := now + 1#32 }
    let d : Device := { ready with crs := { claims := [c, later], nextJoin := 2 } }
    FoundAt now (alone d) (found d) ∧ (found d).crs.claims.find? (fun x => x.key == c.key) = some c
      ∧ isAfter c.expiry (found d).clock = false
      ∧ (found d).crs.claims.find? (fun x => x.key == later.key) = some later
      ∧ isAfter later.expiry (found d).clock = true ∧ (∀ tr ∈ (found d).htk.tracks, tr.state ≠ .planned) := by
  decide +kernel

/-! #### Camera and flash -/

/-- The message ends with the line then idle, with a message waiting, and with the camera ORDERED and its pulse ahead. -/
theorem witness_TimedOutputsEnd :
    let m : OrderMessage := { isOrder := true, key := 40#8, bytes := [] }
    let a : Device := { ready with
      cdu := { ready.cdu with orderLine := some (m, now), triggerEnd := some now },
      fdu := { ready.fdu with fireEnd := some now } }
    let b : Device := { a with cdu := { a.cdu with lineQueue := [withdrawal 40#8] } }
    let far : Burst := { burst with frames := burst.frames.map fun f => { f with pulse := 9840#32 } }
    let c : Device := { a with cdu := { a.cdu with state := .ordered, bursts := [far] } }
    FoundAt now (alone a) (found a) ∧ isAfter now (found a).clock = false ∧ (found a).cdu.state ≠ .ordered
      ∧ (found a).cdu.orderLine = some (m, now) ∧ (found a).cdu.lineQueue = []
      ∧ (found a).cdu.triggerEnd = some now ∧ (found a).fdu.fireEnd = some now
      ∧ FoundAt now (alone b) (found b) ∧ (found b).cdu.orderLine = some (m, now)
      ∧ (found b).cdu.lineQueue = [withdrawal 40#8]
      ∧ FoundAt now (alone c) (found c) ∧ (found c).cdu.state = .ordered ∧ (found c).cdu.orderLine = some (m, now)
      ∧ (found c).cdu.bursts.head? = some far ∧ (nextFrame far).map (·.pulse) = some 9840#32
      ∧ isAfter 9840#32 (found c).clock = true := by decide +kernel

/-- The setup time of 800 µs has passed exactly; and a camera that is still BUSY. -/
theorem witness_PulseIssued :
    let f : BurstFrame := { index := 0, pulse := now, gain := 0, issued := false, overdue := false, outcome := none }
    let a : Device := { ready with cdu := { ready.cdu with state := .ordered, bursts := [burst] } }
    let b : Device := { a with cdu := { a.cdu with state := .busy } }
    let holds := fun d : Device => !isAfter f.pulse d.clock && d.cdu.state == .ordered
      && due (burst.orderEnd.map fun e => e + BitVec.ofNat 32 image.cameraSetup) d.clock && d.cdu.triggerEnd.isNone
    FoundAt now (alone a) (found a) ∧ (found a).cfl.image = some image ∧ (found a).cdu.bursts = [burst]
      ∧ nextFrame burst = some f ∧ holds (found a) = true
      ∧ FoundAt now (alone b) (found b) ∧ (found b).cfl.image = some image ∧ (found b).cdu.bursts = [burst]
      ∧ holds (found b) = false := by decide +kernel

/-- BOOTING with two and with three timeouts counted, and IDLE. -/
theorem witness_BootWindowRuns :
    let boot := fun n : Nat => ({ ready with
      cdu := { Cdu.reset with timeouts := n, bootDeadline := some now } } : Device)
    (∀ n ∈ [2, 3],
      FoundAt now (alone (boot n)) (found (boot n)) ∧ (found (boot n)).cdu.state = .booting
        ∧ (found (boot n)).cdu.bootDeadline = some now ∧ isAfter now (found (boot n)).clock = false
        ∧ (found (boot n)).cfl.image = some image ∧ (found (boot n)).cdu.bursts = [])
      ∧ (found (boot 2)).cdu.timeouts < 3 ∧ (found (boot 3)).cdu.timeouts = 3
      ∧ FoundAt now (alone ready) (found ready) ∧ (found ready).cdu.state = .idle := by decide +kernel

def awaitedReady : Outstanding :=
  { trackId := 40#8, frame := 0, pulse := 3000#32, earlyBound := 4900#32, readyDeadline := now, issuedLate := false }

/-- Frame 0 of the burst outstanding, frame 1 still to come. -/
def exposing : Device :=
  let d := holding { track with state := .exposing, frames := [frame 0, { frame 1 with pulse := 9840#32 }] } ready
  { d with cdu := { d.cdu with
      state := .busy, outstanding := some awaitedReady,
      bursts := [{ burst with frames := burst.frames.map fun f => { f with issued := f.index == 0 } }] } }

/-- A track with its one frame pulsed, its flash decided or not. -/
def ended (reported : Bool) : Track :=
  { track with state := .exposing, frames := [{ frame 0 with pulsed := true, flash := .none, flashReported := reported }] }

/-- Its burst with that frame outstanding. -/
def ending (reported : Bool) : Device :=
  let d := holding (ended reported) ready
  { d with cdu := { d.cdu with
      state := .busy, outstanding := some awaitedReady,
      bursts := [{ burst with
        n := 1, frames := [{ index := 0, pulse := 3000#32, gain := 0, issued := true, overdue := false, outcome := none }] }] } }

/-- A frame still to come; the last frame of a burst whose track stays, and whose track closes; and the pulse's own
instant, at which READY changes nothing. -/
theorem witness_ReadySettlesFrame :
    let closing := ending true
    let staying := ending false
    let due_ : Device := { exposing with
      cdu := { exposing.cdu with outstanding := some { awaitedReady with pulse := now } } }
    (∀ d ∈ [exposing, closing, staying, due_], FoundAt now (alone d) (found d) ∧ (found d).cdu.state = .busy)
      ∧ (found exposing).cdu.outstanding = some awaitedReady ∧ awaitedReady.pulse ≠ (found exposing).clock
      ∧ (∀ b ∈ (found exposing).cdu.bursts, ∀ f ∈ b.frames, f.issued = false →
          isAfter f.pulse (found exposing).clock = true)
      ∧ (∀ b ∈ (found exposing).cdu.bursts, b.trackId = awaitedReady.trackId →
          ∃ f ∈ b.frames, f.index ≠ awaitedReady.frame ∧ f.outcome = none)
      ∧ (∀ tr ∈ (found exposing).htk.tracks, tr.id = awaitedReady.trackId →
          ∃ f ∈ tr.frames, f.index ≠ awaitedReady.frame ∧ f.outcome = none)
      ∧ (∀ d ∈ [closing, staying], (found d).cdu.outstanding = some awaitedReady ∧ (found d).rqs.records.length < 32
          ∧ (∃ b ∈ (found d).cdu.bursts, b.trackId = awaitedReady.trackId
              ∧ ∀ f ∈ b.frames, f.index = awaitedReady.frame ∨ f.outcome ≠ none)
          ∧ ((found d).cdu.bursts.filter fun b => b.trackId != awaitedReady.trackId) = [])
      ∧ findTrack (found closing) 40#8 = some (ended true) ∧ findTrack (found staying) 40#8 = some (ended false)
      ∧ (∀ f ∈ (ended true).frames, f.pulsed = true ∧ f.flashReported = true ∧ f.ownFired = false)
      ∧ (∃ f ∈ (ended false).frames, f.pulsed = true ∧ f.flashReported = false)
      ∧ { awaitedReady with pulse := now }.pulse = (found due_).clock := by decide +kernel

/-- 08, R162, R161: a READY at the instant of the pulse leaves the frame outstanding; a microsecond later it settles it. -/
theorem test_readyAtPulse :
    let d : Device := { exposing with
      cdu := { exposing.cdu with outstanding := some { awaitedReady with pulse := now } } }
    (takeReady (found d)).cdu.outstanding.isSome = true
      ∧ (takeReady (advanceTo (now + 1#32) d)).cdu.outstanding = none := by decide +kernel

/-- The ready deadline reached with no timeout and with three counted, and a microsecond before it; a burst whose track
stays, and one whose track closes. -/
theorem witness_ReadyDeadlineTimesOut :
    let third : Device := { exposing with cdu := { exposing.cdu with timeouts := 3 } }
    FoundAt now (alone exposing) (found exposing) ∧ (found exposing).cdu.outstanding = some awaitedReady
      ∧ isAfter awaitedReady.readyDeadline (found exposing).clock = false ∧ (found exposing).cdu.timeouts < 3
      ∧ FoundAt now (alone third) (found third) ∧ (found third).cdu.outstanding = some awaitedReady
      ∧ (found third).cdu.timeouts = 3
      ∧ FoundAt 4999#32 (alone exposing) (advanceTo 4999#32 exposing)
      ∧ isAfter awaitedReady.readyDeadline (advanceTo 4999#32 exposing).clock = true
      ∧ (∀ r ∈ [true, false],
          let d := ending r
          FoundAt now (alone d) (found d) ∧ (found d).cdu.outstanding = some awaitedReady
            ∧ (found d).cdu.timeouts < 3 ∧ (found d).cdu.bursts.map (·.trackId) = [awaitedReady.trackId]
            ∧ findTrack (found d) awaitedReady.trackId = some (ended r) ∧ (∃ f ∈ (ended r).frames, f.pulsed = true)
            ∧ (∃ f ∈ (ended r).frames, f.index = awaitedReady.frame) ∧ (found d).rqs.records.length < 32) := by
  decide +kernel

/-- A flashed frame allowed, the same with the flash LOCKED, a frame whose co-lit source is held, and one whose
source is gone, with the flash IDLE and LOCKED. -/
theorem witness_FlashDecided :
    let x : FlashDecision :=
      { trackId := 40#8, frame := 0, instant := now, e := 36, flashed := true, coLit := none }
    let key : ClaimKey := { station := 14, trackId := 7#8 }
    let c : NeighbourClaim :=
      { key := key, track := 3, flash := true, centre := 5020#32, n := 1, s := 4840, e := 40, tol := 95, flashed := [0],
        join := 0, expiry := 5300#32 }
    let a : Device := { exposing with fdu := { exposing.fdu with decisions := [x] } }
    let b : Device := { a with fdu := { a.fdu with state := .locked, misfires := 4 } }
    let l : Device := { exposing with
      fdu := { exposing.fdu with decisions := [{ x with flashed := false, coLit := some key }] },
      crs := { claims := [c], nextJoin := 1 } }
    let gone : Device := { l with crs := Crs.reset }
    let gone' : Device := { gone with fdu := { gone.fdu with state := .locked, misfires := 4 } }
    (∀ d ∈ [a, b, l],
      FoundAt now (alone d) (found d) ∧ (found d).cfl.image = some image
        ∧ (∀ tr ∈ (found d).htk.tracks, tr.id = 40#8 → ∃ f ∈ tr.frames, f.outcome = none))
      ∧ (found a).fdu.decisions.find? (fun y => y.trackId == 40#8 && y.frame == 0) = some x
      ∧ isAfter x.instant (found a).clock = false ∧ (found a).fdu.state = .idle ∧ (found a).fdu.lastPulse = none
      ∧ (found b).fdu.decisions.find? (fun y => y.trackId == 40#8 && y.frame == 0) = some x
      ∧ (found b).fdu.state = .locked
      ∧ (found l).fdu.decisions.find? (fun y => y.trackId == 40#8 && y.frame == 0)
          = some { x with flashed := false, coLit := some key }
      ∧ (found l).crs.claims.find? (fun y => y.key == key) = some c
      ∧ (∀ d ∈ [gone, gone'], FoundAt now (alone d) (found d) ∧ (found d).crs.claims = []
          ∧ (found d).fdu.decisions.find? (fun y => y.trackId == 40#8 && y.frame == 0)
            = some { x with flashed := false, coLit := some key })
      ∧ (found gone).fdu.state = .idle ∧ (found gone').fdu.state = .locked := by decide +kernel

/-- A return at its deadline in IDLE with two and with three misfires counted, in LOCKED, and one that fits no window. -/
theorem witness_ReturnsSettle :
    let x : AwaitedReturn := { trackId := 40#8, frame := 0, fired := 4800#32, deadline := now }
    let fits := fun (d : Device) (y : AwaitedReturn) =>
      !isBefore d.clock (y.fired + 5#32) && !isAfter d.clock y.deadline
    let waiting := fun (st : FlashState) (n : Nat) => ({ exposing with
      fdu := { exposing.fdu with state := st, misfires := n, awaited := [x] } } : Device)
    (∀ d ∈ [waiting .idle 2, waiting .idle 3, waiting .locked 4],
      FoundAt now (alone d) (found d) ∧ (∀ tr ∈ (found d).htk.tracks, tr.id = x.trackId → ∃ f ∈ tr.frames, f.outcome = none)
        ∧ (found d).fdu.awaited.find? (fits (found d)) = some x
        ∧ (found d).fdu.awaited.find? (fun y => y.trackId == x.trackId && y.frame == x.frame) = some x
        ∧ isAfter x.deadline (found d).clock = false ∧ (∀ tr ∈ (found d).htk.tracks, tr.state ≠ .planned))
      ∧ (found exposing).fdu.awaited.find? (fits (found exposing)) = none
      ∧ isAfter x.deadline (advanceTo 4999#32 (waiting .idle 2)).clock = true := by decide +kernel

/-! #### Records and the service port -/

/-- A queue of 31 and one of 32, and the numbers 999,999 and 0. -/
theorem witness_RecordsAndPassageNumbers :
    let r := missedRecord ready .late track
    let d := fun n : Nat => ({ ready with rqs := { ready.rqs with records := List.replicate n r } } : Device)
    (d 31).rqs.records.length < 32 ∧ 32 ≤ (d 32).rqs.records.length ∧ 999999 < 1000000 ∧ 0 < 1000000 := by
  decide +kernel

theorem witness_QueriesAnswered :
    let r := missedRecord ready .late track
    let d : Device := { ready with rqs := { ready.rqs with records := [r] } }
    FoundAt now (alone ready) (found ready) ∧ (found ready).rqs.receiver = .idle ∧ (found ready).rqs.reply = none
      ∧ (found ready).rqs.records = []
      ∧ FoundAt now (alone d) (found d) ∧ (found d).rqs.receiver = .idle ∧ (found d).rqs.reply = none
      ∧ (found d).rqs.records = [r] := by decide +kernel

/-- A loading station, and a working one for a curtain of its enabled and of its disabled pair. -/
theorem witness_ForceBeamsTaken :
    FoundAt now (alone Device.reset) (found Device.reset) ∧ (found Device.reset).rqs.receiver = .idle
      ∧ (found Device.reset).rqs.reply = none ∧ stationWorks (found Device.reset) = false
      ∧ FoundAt now (alone ready) (found ready) ∧ (found ready).rqs.receiver = .idle
      ∧ (found ready).rqs.reply = none ∧ stationWorks (found ready) = true
      ∧ enabledPair (found ready) (pairOf 1) = some pair ∧ enabledPair (found ready) (pairOf 2) = none
      ∧ (sequencer (found ready) (pairOf 2)).state = .idle := by decide

theorem witness_ClearLockoutTaken :
    let d : Device := { ready with
      cdu := { ready.cdu with state := .locked, timeouts := 4 }, fdu := { ready.fdu with state := .locked, misfires := 4 } }
    FoundAt now (alone d) (found d) ∧ (found d).rqs.receiver = .idle ∧ (found d).rqs.reply = none
      ∧ (found d).cfl.image = some image ∧ (∀ tr ∈ (found d).htk.tracks, tr.state ≠ .planned) := by decide

theorem witness_RestartTaken :
    FoundAt now (alone ready) (found ready) ∧ (found ready).rqs.receiver = .idle ∧ (found ready).rqs.reply = none
      ∧ (12#5 : BitVec 5) ≠ 0#5 := by decide

/-- The receiver in each of its states; the first and the last command byte and their neighbours; STATUS with its last
byte to come, right and wrong, on an idle port and during a reply; PEEK commands short of a byte. -/
theorem witness_ReceiverGathers :
    let readerIn := fun (r : Receiver) (hand : List Byte) (reply : Option (List Byte)) => ({ ready with
      rqs := { ready.rqs with receiver := r, inHand := hand, gapDeadline := some now, reply := reply } } : Device)
    (∀ r ∈ [Receiver.idle, .receiving, .discarding],
      let d := readerIn r [] none
      FoundAt now (alone d) (found d) ∧ (found d).rqs.receiver = r ∧ (found d).rqs.gapDeadline = some now
        ∧ isAfter now (found d).clock = false)
      ∧ (0x51#8 : Byte) ≤ 0x51#8 ∧ (0x57#8 : Byte) ≤ 0x57#8 ∧ (0x50#8 : Byte) < 0x51#8 ∧ (0x57#8 : Byte) < 0x58#8
      ∧ (∀ d ∈ [readerIn .receiving [0x51#8] none, readerIn .receiving [0x51#8] (some [0xD1#8])],
          FoundAt now (alone d) (found d) ∧ (found d).rqs.receiver = .receiving ∧ (found d).rqs.inHand = [0x51#8]
            ∧ (found d).rqs.held = none)
      ∧ [0x51#8, 0x51#8].length = commandLength 0x51#8 ∧ [0x51#8, 0x51#8] = commandBytes .status
      ∧ judgeCommand [0x51#8, 0x00#8] = none ∧ [0x55#8, 0x00#8].length ≠ commandLength 0x55#8
      ∧ discardedCommand [0x51#8, 0x00#8] = true := by decide

/-- A reply on its way with nothing pending and with STATUS pending. -/
theorem witness_CommandsWait :
    let a : Device := { ready with rqs := { ready.rqs with reply := some [0xD1#8] } }
    let b : Device := { a with rqs := { a.rqs with held := some .status } }
    FoundAt now (alone a) (found a) ∧ (found a).rqs.receiver = .idle ∧ (found a).rqs.reply = some [0xD1#8]
      ∧ (found a).rqs.held = none
      ∧ FoundAt now (alone b) (found b) ∧ (found b).rqs.receiver = .idle ∧ (found b).rqs.reply = some [0xD1#8]
      ∧ (found b).rqs.held = some .status := by decide

/-! #### What every step keeps -/

/-- A running station with a command waiting, whose step answers a next state. -/
def begun : State := { dev := { ready with cfl := { ready.cfl with indicator := .off } }, pending := [.takeRecord now] }

theorem witness_BoundsKept :
    ∃ s', Bounded begun.dev ∧ TracksDistinct begun.dev ∧ step begun = .next s' := ⟨_, by decide, by decide, rfl⟩

theorem witness_BlocksFollowStation :
    ∃ s', StationAgrees begun.dev ∧ OnlyRunningSends begun.dev ∧ ResetHeld begun.dev ∧ LockoutsAgree begun.dev
      ∧ step begun = .next s' :=
  ⟨_, ⟨rfl, nofun, nofun, nofun, fun n h => by cases h; decide⟩, nofun, nofun, by decide, rfl⟩

theorem witness_IndicatorFollows : ∃ s', IndicatorShows begun.dev ∧ step begun = .next s' := ⟨_, by decide, rfl⟩

end Sys2Proof.Tests
end

/-! ## The part in order

What the blocks agree on while the station works (`Orderly`) is kept by every operation; one lemma per operation, in
the order of the model's files. -/

namespace Sys2Proof.Machine

/-! ### Outside RUNNING every request is refused (R50) -/

theorem requestPresence_refused {d : Device} (h : d.cfl.station ≠ .running) : requestPresence d = d := by
  simp [requestPresence, h]

theorem requestSighting_refused {d : Device} (c : SightingContents) (h : d.cfl.station ≠ .running) :
    requestSighting c d = d := by simp [requestSighting, h]

theorem requestClaim_refused {d : Device} (c : ClaimContents) (h : d.cfl.station ≠ .running) :
    requestClaim c d = (d, .refused) := by simp [requestClaim, h]

theorem requestRelease_refused {d : Device} (id : Byte) (h : d.cfl.station ≠ .running) : requestRelease id d = d := by
  simp [requestRelease, h]

/-! ### What the drive units' operations leave of their counts and states -/

@[simp] theorem offerMessage_drive (m : OrderMessage) (d : Device) :
    (offerMessage m d).cdu.state = d.cdu.state ∧ (offerMessage m d).cdu.timeouts = d.cdu.timeouts
      ∧ (offerMessage m d).cdu.outstanding = d.cdu.outstanding := by
  unfold offerMessage
  split <;> simp

@[simp] theorem endMessage_drive (d : Device) :
    (endMessage d).cdu.state = d.cdu.state ∧ (endMessage d).cdu.timeouts = d.cdu.timeouts
      ∧ (endMessage d).cdu.outstanding = d.cdu.outstanding := by
  unfold endMessage
  (repeat' split) <;> simp

@[simp] theorem dropBurst_drive (id : Byte) (d : Device) :
    (dropBurst id d).cdu.state = d.cdu.state ∧ (dropBurst id d).cdu.timeouts = d.cdu.timeouts
      ∧ (dropBurst id d).cdu.outstanding = d.cdu.outstanding ∧ (dropBurst id d).fdu.state = d.fdu.state
      ∧ (dropBurst id d).fdu.misfires = d.fdu.misfires := by simp [dropBurst]

@[simp] theorem modifyBurstFrame_drive (id : Byte) (k : Nat) (f : BurstFrame → BurstFrame) (d : Device) :
    (modifyBurstFrame id k f d).cdu.state = d.cdu.state ∧ (modifyBurstFrame id k f d).cdu.timeouts = d.cdu.timeouts
      ∧ (modifyBurstFrame id k f d).cdu.outstanding = d.cdu.outstanding := by simp [modifyBurstFrame]

@[simp] theorem trimBurst_drive (id : Byte) (i : Int) (d : Device) :
    (trimBurst id i d).cdu.state = d.cdu.state ∧ (trimBurst id i d).cdu.timeouts = d.cdu.timeouts
      ∧ (trimBurst id i d).cdu.outstanding = d.cdu.outstanding := by simp [trimBurst]

@[simp] theorem settleFrame_drive (id : Byte) (k : Nat) (o : CameraOutcome) (d : Device) :
    (settleFrame id k o d).cdu.state = d.cdu.state ∧ (settleFrame id k o d).cdu.timeouts = d.cdu.timeouts
      ∧ (settleFrame id k o d).cdu.outstanding = d.cdu.outstanding := by simp [settleFrame]

@[simp] theorem dropIfSettled_drive (id : Byte) (d : Device) :
    (dropIfSettled id d).cdu.state = d.cdu.state ∧ (dropIfSettled id d).cdu.timeouts = d.cdu.timeouts
      ∧ (dropIfSettled id d).cdu.outstanding = d.cdu.outstanding ∧ (dropIfSettled id d).fdu.state = d.fdu.state
      ∧ (dropIfSettled id d).fdu.misfires = d.fdu.misfires := by
  unfold dropIfSettled
  split <;> simp

@[simp] theorem cancelFrames_drive (b : Burst) (d : Device) :
    (cancelFrames b d).cdu.state = d.cdu.state ∧ (cancelFrames b d).cdu.timeouts = d.cdu.timeouts
      ∧ (cancelFrames b d).cdu.outstanding = d.cdu.outstanding :=
  ⟨forEach_proj (·.cdu.state) _ _ _ (by simp), forEach_proj (·.cdu.timeouts) _ _ _ (by simp),
    forEach_proj (·.cdu.outstanding) _ _ _ (by simp)⟩

@[simp] theorem cancelBurst_drive (b : Burst) (d : Device) :
    (cancelBurst b d).cdu.state = d.cdu.state ∧ (cancelBurst b d).cdu.timeouts = d.cdu.timeouts
      ∧ (cancelBurst b d).cdu.outstanding = d.cdu.outstanding ∧ (cancelBurst b d).fdu.state = d.fdu.state
      ∧ (cancelBurst b d).fdu.misfires = d.fdu.misfires := by
  simp only [cancelBurst]
  split <;> simp

/-- A sweep of cancellations leaves the counts and states of both units. -/
@[simp] theorem cancelBursts_drive (l : List Burst) (d : Device) :
    (forEach l cancelBurst d).cdu.state = d.cdu.state ∧ (forEach l cancelBurst d).cdu.timeouts = d.cdu.timeouts
      ∧ (forEach l cancelBurst d).cdu.outstanding = d.cdu.outstanding
      ∧ (forEach l cancelBurst d).fdu.state = d.fdu.state ∧ (forEach l cancelBurst d).fdu.misfires = d.fdu.misfires :=
  ⟨forEach_proj (·.cdu.state) _ _ _ (by simp), forEach_proj (·.cdu.timeouts) _ _ _ (by simp),
    forEach_proj (·.cdu.outstanding) _ _ _ (by simp), forEach_proj (·.fdu.state) _ _ _ (by simp),
    forEach_proj (·.fdu.misfires) _ _ _ (by simp)⟩

@[simp] theorem removeDecision_drive (x : FlashDecision) (d : Device) :
    (removeDecision x d).fdu.state = d.fdu.state ∧ (removeDecision x d).fdu.misfires = d.fdu.misfires := by
  simp [removeDecision]

@[simp] theorem removeAwaited_drive (a : AwaitedReturn) (d : Device) :
    (removeAwaited a d).fdu.state = d.fdu.state ∧ (removeAwaited a d).fdu.misfires = d.fdu.misfires := by
  simp [removeAwaited]

@[simp] theorem fireFlash_drive (im : Image) (x : FlashDecision) (d : Device) :
    (fireFlash im x d).fdu.state = d.fdu.state ∧ (fireFlash im x d).fdu.misfires = d.fdu.misfires := by
  simp [fireFlash]

/-! ### The agreement of a working station -/

/-- The station works, its deadlines belong to its state, and only RUNNING sends. -/
structure Steady (d : Device) : Prop where
  works : stationWorks d = true
  station : StationAgrees d
  sends : OnlyRunningSends d

/-- A steady part whose drive units' counts and states agree. -/
structure Orderly (d : Device) : Prop extends Steady d where
  lockouts : LockoutsAgree d

/-- A property that every pass keeps is kept by the whole sweep. -/
theorem forEach_keeps {α : Type} {P : Device → Prop} {f : α → Device → Device} (h : ∀ a x, P x → P (f a x))
    (l : List α) {d : Device} (hd : P d) : P (forEach l f d) := by
  unfold forEach
  induction l generalizing d with
  | nil => exact hd
  | cons a l ih => exact ih (h a d hd)

/-- What the station's own agreement reads. -/
theorem Steady.congr {d d' : Device} (h : Steady d)
    (e : d'.cfl = d.cfl ∧ d'.fx = d.fx ∧ d'.liu.transmitter = d.liu.transmitter ∧ d'.liu.driven = d.liu.driven) :
    Steady d' := by
  obtain ⟨hc, hf, ht, hd⟩ := e
  obtain ⟨hw, hs, hr⟩ := h
  exact ⟨by simpa [stationWorks, hc] using hw, by simpa [StationAgrees, stationWorks, hc] using hs,
    by simpa [OnlyRunningSends, hc, hf, ht, hd] using hr⟩

theorem LockoutsAgree.congr {d d' : Device} (h : LockoutsAgree d)
    (e : d'.cdu.state = d.cdu.state ∧ d'.cdu.timeouts = d.cdu.timeouts ∧ d'.cdu.outstanding = d.cdu.outstanding
      ∧ d'.fdu.state = d.fdu.state ∧ d'.fdu.misfires = d.fdu.misfires) : LockoutsAgree d' := by
  obtain ⟨h1, h2, h3, h4, h5⟩ := e
  simpa only [LockoutsAgree, h1, h2, h3, h4, h5] using h

theorem Orderly.congr {d d' : Device} (h : Orderly d)
    (e : (d'.cfl = d.cfl ∧ d'.fx = d.fx ∧ d'.liu.transmitter = d.liu.transmitter ∧ d'.liu.driven = d.liu.driven)
      ∧ d'.cdu.state = d.cdu.state ∧ d'.cdu.timeouts = d.cdu.timeouts ∧ d'.cdu.outstanding = d.cdu.outstanding
      ∧ d'.fdu.state = d.fdu.state ∧ d'.fdu.misfires = d.fdu.misfires) : Orderly d' :=
  ⟨h.toSteady.congr e.1, h.lockouts.congr e.2⟩

/-- In RUNNING the queue and the transmitter are free. -/
theorem Steady.running {d d' : Device} (h : Steady d) (hr : d.cfl.station = .running) (e : d'.cfl = d.cfl) :
    Steady d' := by
  obtain ⟨hw, hs, -⟩ := h
  exact ⟨by simpa [stationWorks, e] using hw, by simpa [StationAgrees, stationWorks, e] using hs,
    fun n => absurd (by simpa [e] using hr) n⟩

theorem Orderly.running {d d' : Device} (h : Orderly d) (hr : d.cfl.station = .running)
    (e : d'.cfl = d.cfl ∧ d'.cdu = d.cdu ∧ d'.fdu = d.fdu) : Orderly d' :=
  ⟨h.toSteady.running hr e.1, h.lockouts.congr (by simp [e])⟩

/-- A steady part whose drive units stand as in an orderly one. -/
theorem Orderly.of_steady {d d' : Device} (h : Orderly d) (hs : Steady d') (e : d'.cdu = d.cdu ∧ d'.fdu = d.fdu) :
    Orderly d' := ⟨hs, h.lockouts.congr (by simp [e])⟩

/-! ### Exchange.lean -/

theorem removeEntry_orderly {d : Device} (order : Nat) (h : Orderly d) (hr : d.cfl.station = .running) :
    Orderly (removeEntry order d) := h.running hr (by simp)

theorem modifyEntry_orderly {d : Device} (order : Nat) (f : QueueEntry → QueueEntry) (h : Orderly d)
    (hr : d.cfl.station = .running) : Orderly (modifyEntry order f d) := h.running hr (by simp)

theorem requestPresence_orderly {d : Device} (h : Orderly d) : Orderly (requestPresence d) := by
  by_cases hr : d.cfl.station = .running
  · exact h.running hr (by simp)
  · rwa [requestPresence_refused hr]

theorem requestSighting_orderly {d : Device} (c : SightingContents) (h : Orderly d) : Orderly (requestSighting c d) := by
  by_cases hr : d.cfl.station = .running
  · exact h.running hr (by simp)
  · rwa [requestSighting_refused c hr]

theorem requestClaim_orderly {d : Device} (c : ClaimContents) (h : Orderly d) : Orderly (requestClaim c d).1 := by
  by_cases hr : d.cfl.station = .running
  · exact h.running hr (by simp)
  · rwa [requestClaim_refused c hr]

theorem requestRelease_steady {d : Device} (id : Byte) (h : Steady d) : Steady (requestRelease id d) := by
  by_cases hr : d.cfl.station = .running
  · exact h.running hr (by simp)
  · rwa [requestRelease_refused id hr]

/-! ### Camera.lean -/

theorem acceptBurst_orderly {d : Device} (im : Image) (tr : Track) (b : Burst) (fp : FlashPlan) (h : Orderly d) :
    Orderly (acceptBurst im tr b fp d) := by
  refine ⟨h.toSteady.congr (by simp), ?_⟩
  have hl := h.lockouts
  by_cases hi : d.cdu.state = .idle <;> simp_all [acceptBurst, LockoutsAgree]

/-! ### Tracks.lean -/

theorem setTracks_steady {d : Device} (l : List Track) (h : Steady d) : Steady (setTracks l d) := h.congr (by simp)

theorem offerCapture_steady {d : Device} (r : CaptureRecord) (h : Steady d) : Steady (offerCapture r d) :=
  h.congr (by simp)

theorem closeTrack_steady {d : Device} (o : TrackOutcome) (r : Reason) (id : Byte) (h : Steady d) :
    Steady (closeTrack o r id d) := by
  unfold closeTrack
  split
  · exact h
  · refine setTracks_steady _ ?_
    split
    · exact requestRelease_steady id (offerCapture_steady _ h)
    · exact offerCapture_steady _ h

theorem closeTrack_orderly {d : Device} (o : TrackOutcome) (r : Reason) (id : Byte) (h : Orderly d) :
    Orderly (closeTrack o r id d) := h.of_steady (closeTrack_steady o r id h.toSteady) (by simp)

theorem closeIfSettled_steady {d : Device} (id : Byte) (h : Steady d) : Steady (closeIfSettled id d) := by
  unfold closeIfSettled
  split
  · exact h
  · split
    · exact closeTrack_steady _ _ _ h
    · exact h

theorem closeIfSettled_orderly {d : Device} (id : Byte) (h : Orderly d) : Orderly (closeIfSettled id d) :=
  h.of_steady (closeIfSettled_steady id h.toSteady) (by simp)

theorem modifyTrack_orderly {d : Device} (id : Byte) (f : Track → Track) (h : Orderly d) :
    Orderly (modifyTrack id f d) := h.congr (by simp)

theorem armTrack_orderly {d : Device} (id : Byte) (h : Orderly d) : Orderly (armTrack id d) := by
  simp only [armTrack]
  split
  · split
    · exact h
    · have h1 := modifyTrack_orderly id (fun x => { x with armPoint := none }) h
      split
      · exact closeTrack_orderly _ _ _ h1
      · split
        · exact modifyTrack_orderly _ _ (acceptBurst_orderly _ _ _ _ (modifyTrack_orderly _ _ h1))
        · exact closeTrack_orderly _ _ _ (modifyTrack_orderly _ _ h1)
  · exact h

theorem fixArmPoint_orderly {d : Device} (id : Byte) (h : Orderly d) : Orderly (fixArmPoint id d) := by
  unfold fixArmPoint
  split
  · exact h
  · split
    · exact modifyTrack_orderly _ _ h
    · split
      · exact armTrack_orderly _ h
      · exact closeTrack_orderly _ _ _ h

theorem claimDecision_orderly {d : Device} (id : Byte) (h : Orderly d) : Orderly (claimDecision id d).1 := by
  simp only [claimDecision]
  split
  · exact h
  · split
    · exact h
    · split
      · exact h
      · split
        · exact h
        · split <;> exact modifyTrack_orderly _ _ (requestClaim_orderly _ h)

theorem resolveOnce_orderly {d : Device} (id : Byte) (h : Orderly d) : Orderly (resolveOnce id d).1 := by
  unfold resolveOnce
  split
  · split
    · exact claimDecision_orderly _ (fixArmPoint_orderly _ (modifyTrack_orderly _ _ h))
    · exact h
  · exact h

theorem resolveTrack_orderly {d : Device} (id : Byte) (h : Orderly d) : Orderly (resolveTrack id d) := by
  simp only [resolveTrack]
  split
  · exact resolveOnce_orderly _ (resolveOnce_orderly _ h)
  · exact resolveOnce_orderly _ h

theorem resolveAll_orderly {d : Device} (h : Orderly d) : Orderly (resolveAll d) :=
  forEach_keeps (fun id _ => resolveTrack_orderly id) _ h

theorem dropReport_orderly {d : Device} (r : DropReason) (id : Byte) (h : Orderly d) : Orderly (dropReport r id d) := by
  unfold dropReport
  split
  · exact h
  · have h1 := modifyTrack_orderly id loseClaim h
    split
    · exact modifyTrack_orderly _ _ h
    all_goals
      simp only []
      split
      · exact resolveTrack_orderly _ h1
      · exact h1

theorem reportDropped_orderly {d : Device} (r : DropReason) (e : QueueEntry) (h : Orderly d) :
    Orderly (reportDropped r e d) := by
  unfold reportDropped
  split
  · split
    · exact h
    · exact dropReport_orderly _ _ h
  · exact h

theorem planTrack_orderly {d : Device} (id : Byte) (h : Orderly d) : Orderly (planTrack id d) := by
  unfold planTrack
  split
  · exact resolveTrack_orderly _ (modifyTrack_orderly _ _ h)
  · exact h

theorem replanTrack_orderly {d : Device} (id : Byte) (h : Orderly d) : Orderly (replanTrack id d) := by
  unfold replanTrack
  split
  · split
    · exact planTrack_orderly _ h
    · exact h
  · exact h

theorem replanAll_orderly {d : Device} (h : Orderly d) : Orderly (replanAll d) :=
  forEach_keeps (fun id _ => replanTrack_orderly id) _ h

theorem enterHorizon_orderly {d : Device} (id : Byte) (h : Orderly d) : Orderly (enterHorizon id d) := by
  unfold enterHorizon
  split
  · split
    · exact modifyTrack_orderly _ _ h
    · exact planTrack_orderly _ h
  · exact h

theorem changeClaims_orderly {d : Device} (l : List NeighbourClaim) (made : Option NeighbourClaim) (h : Orderly d) :
    Orderly (changeClaims l made d) := by
  unfold changeClaims
  split <;> exact resolveAll_orderly (h.congr (by simp))

theorem removeClaim_orderly {d : Device} (key : ClaimKey) (h : Orderly d) : Orderly (removeClaim key d) := by
  unfold removeClaim
  split
  · exact changeClaims_orderly _ _ h
  · exact h

theorem takeClaim_orderly {d : Device} (key : ClaimKey) (f : ClaimFrame) (centre : Time) (h : Orderly d) :
    Orderly (takeClaim key f centre d) := by
  have hr := removeClaim_orderly key h
  have h1 : Orderly { d with crs := { d.crs with nextJoin := d.crs.nextJoin + 1 } } := h.congr (by simp)
  simp only [takeClaim]
  split
  · exact h
  split
  · exact hr
  split
  · exact hr
  split
  · exact hr
  split
  · exact changeClaims_orderly _ _ h
  split
  · exact changeClaims_orderly _ _ h1
  split
  · exact h
  split
  · exact changeClaims_orderly _ _ h1
  · exact h

/-! ### Pulses.lean -/

theorem issuePulses_orderly {d : Device} (h : Orderly d) : Orderly (issuePulses d) := by
  rcases issuePulses_cases d with e | ⟨b, rest, im, f, -, -, -, hm, e⟩
  · rwa [e]
  · have ho : d.cdu.state = .ordered := by simp_all [mayIssue]
    have hl := h.lockouts
    rw [e]
    exact ⟨h.toSteady.congr (by simp), by simp_all [issueNow, LockoutsAgree]⟩

theorem settleReady_orderly {d : Device} (o : Outstanding) (h : Orderly d) : Orderly (settleReady o d) := by
  refine closeIfSettled_orderly _ ⟨h.toSteady.congr (by simp), ?_⟩
  have hl := h.lockouts
  simp only [LockoutsAgree, restState, dropIfSettled_drive, settleFrame_drive, settleFrame_frame]
  split <;> simp_all [LockoutsAgree]

theorem takeReady_orderly {d : Device} (h : Orderly d) : Orderly (takeReady d) := by
  have hl := h.lockouts
  unfold takeReady
  split
  · split
    · exact ⟨h.toSteady.congr (by simp), by simp_all [LockoutsAgree]⟩
    · exact h
  · split
    · split
      · exact h
      · exact issuePulses_orderly (settleReady_orderly _ h)
    · exact h
  all_goals exact h

/-- R154: the boot window opens on a camera of which no READY is awaited. -/
theorem startBoot_orderly {d : Device} (im : Image) (h : Orderly d) (ho : d.cdu.outstanding = none) :
    Orderly (startBoot im d) := by
  have hl := h.lockouts
  have h1 : Orderly { d with cdu := { d.cdu with
      state := .booting, timeouts := 0, bootDeadline := some (laterBy d.clock (im.bootWindow * 1000)) } } :=
    ⟨h.toSteady.congr (by simp), by simp_all [LockoutsAgree]⟩
  simp only [startBoot]
  split
  · exact takeReady_orderly h1
  · exact h1

/-- R164: the fourth timeout locks a camera of which no READY is awaited. -/
theorem lockCamera_orderly {d : Device} (h : Steady d) (ht : d.cdu.timeouts = 4) (ho : d.cdu.outstanding = none)
    (hf : d.fdu.misfires ≤ 4 ∧ (d.fdu.state = .locked ↔ d.fdu.misfires = 4)) : Orderly (lockCamera d) :=
  forEach_keeps (fun b _ => closeIfSettled_orderly b.trackId) _
    ⟨h.congr (by simp), by simp [LockoutsAgree, ht, ho, hf]⟩

/-- A camera with fewer than four timeouts comes to rest. -/
theorem restState_orderly {d : Device} (h : Steady d) (ht : d.cdu.timeouts < 4) (ho : d.cdu.outstanding = none)
    (hf : d.fdu.misfires ≤ 4 ∧ (d.fdu.state = .locked ↔ d.fdu.misfires = 4)) : Orderly (restState d) := by
  refine ⟨h.congr (by simp), ?_⟩
  have h4 : d.cdu.timeouts ≠ 4 := by omega
  simp only [LockoutsAgree, restState]
  split <;> simp [h4, ho, hf] <;> omega

theorem timeOut_orderly {d : Device} {o : Outstanding} (h : Orderly d) (ho : d.cdu.outstanding = some o) :
    Orderly (timeOut o d) := by
  obtain ⟨ht, hlock, hbusy, hf⟩ := h.lockouts
  have hb : d.cdu.state = .busy := hbusy.1 (by simp [ho])
  have hlt : d.cdu.timeouts < 4 := by
    have : d.cdu.timeouts ≠ 4 := fun k => by simp [hb] at hlock; exact hlock k
    omega
  simp only [timeOut]
  generalize hl : List.filter _ _ ++ List.filter _ _ = leaving
  have h4 : Steady (forEach leaving (fun b => closeIfSettled b.trackId) (forEach leaving cancelBurst
      { settleFrame o.trackId o.frame .timeout d with
        cdu := { (settleFrame o.trackId o.frame .timeout d).cdu with outstanding := none } })) :=
    forEach_keeps (fun b _ => closeIfSettled_steady b.trackId) _ (h.toSteady.congr (by simp))
  split
  · rename_i hfour
    exact lockCamera_orderly (h4.congr ⟨rfl, rfl, rfl, rfl⟩) hfour (by simp) (by simpa using hf)
  · rename_i hfour
    exact restState_orderly (h4.congr ⟨rfl, rfl, rfl, rfl⟩) (by simp at hfour ⊢; omega) (by simp) (by simpa using hf)

theorem bootExpires_orderly {d : Device} (im : Image) (h : Orderly d) (hb : d.cdu.state = .booting) :
    Orderly (bootExpires im d) := by
  obtain ⟨ht, hlock, hbusy, hf⟩ := h.lockouts
  have ho : d.cdu.outstanding = none := by simpa [hb] using hbusy
  simp only [bootExpires]
  split
  · exact lockCamera_orderly (h.toSteady.congr (by simp)) ‹_› ho hf
  · refine ⟨h.toSteady.congr (by simp), ?_⟩
    simp only [LockoutsAgree] at *
    simp_all
    omega

theorem clearCamera_orderly {d : Device} (h : Orderly d) : Orderly (clearCamera d) := by
  unfold clearCamera
  split
  · rename_i hs _
    exact startBoot_orderly _ h (by simpa [hs] using h.lockouts.2.2.1)
  · exact h

theorem reportFlash_orderly {d : Device} (id : Byte) (k : Nat) (v : FlashValue) (fired : Bool) (h : Orderly d) :
    Orderly (reportFlash id k v fired d) := closeIfSettled_orderly _ (h.congr (by simp))

theorem decideOwnFlash_orderly {d : Device} (im : Image) (x : FlashDecision) (h : Orderly d) :
    Orderly (decideOwnFlash im x d) := by
  unfold decideOwnFlash
  split
  · exact reportFlash_orderly _ _ _ _ (h.congr (by simp))
  · exact reportFlash_orderly _ _ _ _ h

theorem decideFlash_orderly {d : Device} (im : Image) (x : FlashDecision) (h : Orderly d) :
    Orderly (decideFlash im x d) := by
  have hc : Orderly (loseCoLit x.trackId d) := h.congr (by simp)
  unfold decideFlash
  split
  · split
    · refine reportFlash_orderly _ _ _ _ ?_
      split
      · exact h
      · exact hc
    · exact decideOwnFlash_orderly _ _ hc
  · split
    · exact decideOwnFlash_orderly _ _ h
    · exact reportFlash_orderly _ _ _ _ h

theorem reportReturn_orderly {d : Device} (id : Byte) (k : Nat) (m : Bool) (h : Orderly d) :
    Orderly (reportReturn id k m d) := closeIfSettled_orderly _ (h.congr (by simp))

theorem takeReturn_orderly {d : Device} (h : Orderly d) : Orderly (takeReturn d) := by
  simp only [takeReturn]
  split
  · exact h
  · rename_i a _
    have h1 : Orderly (reportReturn a.trackId a.frame false (removeAwaited a d)) :=
      reportReturn_orderly _ _ _ (h.congr (by simp))
    split
    · have hl := h1.lockouts
      exact ⟨h1.toSteady.congr (by simp), by simp_all [LockoutsAgree]⟩
    · exact h1

theorem misfire_orderly {d : Device} (a : AwaitedReturn) (h : Orderly d) : Orderly (misfire a d) := by
  have h1 : Orderly (reportReturn a.trackId a.frame true (removeAwaited a d)) :=
    reportReturn_orderly _ _ _ (h.congr (by simp))
  have hl := h1.lockouts
  simp only [misfire]
  split
  · exact h1
  · split
    · exact replanAll_orderly ⟨h1.toSteady.congr (by simp), by simp_all [LockoutsAgree]⟩
    · rename_i hi h4
      obtain ⟨ht, hlock, hbusy, hm, hf⟩ := hl
      have hne : (reportReturn a.trackId a.frame true (removeAwaited a d)).fdu.misfires ≠ 4 :=
        fun k => nomatch hi.symm.trans (hf.2 k)
      exact ⟨h1.toSteady.congr (by simp), ht, hlock, hbusy, Nat.succ_le_of_lt (Nat.lt_of_le_of_ne hm hne), by simp_all⟩

theorem clearFlash_orderly {d : Device} (h : Orderly d) : Orderly (clearFlash d) := by
  have hl := h.lockouts
  unfold clearFlash
  split
  · exact replanAll_orderly ⟨h.toSteady.congr (by simp), by simp_all [LockoutsAgree]⟩
  · exact h

/-! ### Association.lean -/

theorem repredict_orderly {d : Device} (id : Byte) (h : Orderly d) : Orderly (repredict id d) := by
  unfold repredict
  split
  · split
    · exact h
    · simp only []
      split
      · exact closeTrack_orderly _ _ _ (modifyTrack_orderly _ _ h)
      · have h1 : ∀ x, Orderly (placeTrack x d) := fun x => h.congr (by simp)
        split
        · exact enterHorizon_orderly _ (h1 _)
        · exact planTrack_orderly _ (h1 _)
        · exact h1 _
        · exact h1 _
  · exact h

theorem trimTrack_orderly {d : Device} (id : Byte) (h : Orderly d) : Orderly (trimTrack id d) := by
  unfold trimTrack
  split
  · split
    · exact issuePulses_orderly (h.congr (by simp))
    · exact h
  · exact h

theorem createTrack_orderly {d : Device} (im : Image) (tr : Track) (h : Orderly d) : Orderly (createTrack im tr d) :=
  enterHorizon_orderly _ (h.congr (by simp))

theorem newTrack_orderly {d : Device} (side : Side) (l : List Sighting) (v : Option VerifyEntry) (h : Orderly d) :
    Orderly (newTrack side l v d) := by
  simp only [newTrack]
  split
  · split
    · exact h.congr (by simp)
    · split
      · exact createTrack_orderly _ _ h
      · split
        · exact createTrack_orderly _ _ (closeTrack_orderly _ _ _ h)
        · exact h.congr (by simp)
  · exact h

theorem takeSighting_orderly {d : Device} (x : Sighting) (h : Orderly d) : Orderly (takeSighting x d) := by
  unfold takeSighting
  split
  · exact h
  · split
    · exact newTrack_orderly _ _ _ h
    · simp only []
      split
      · exact modifyTrack_orderly _ _ h
      · exact repredict_orderly _ (modifyTrack_orderly _ _ h)

theorem takeVerify_orderly {d : Device} (track : Nat) (side : Side) (e : VerifyEntry) (h : Orderly d) :
    Orderly (takeVerify track side e d) := by
  unfold takeVerify
  split
  · exact h
  · split
    · exact newTrack_orderly _ _ _ h
    · rename_i tr _ _
      have h1 := modifyTrack_orderly tr.id (storeVerify e) h
      simp only []
      split
      · exact repredict_orderly _ h1
      · exact repredict_orderly _ h1
      · exact trimTrack_orderly _ h1
      · exact h1

end Sys2Proof.Machine

/-! ## Curtains: what the Curtain Interface Unit's operations write in the CIU -/

namespace Sys2Proof.Machine

/-! ### Passages leave the curtains -/

@[simp] theorem modifySequencer_curtains (p : Fin 2) (f : Sequencer → Sequencer) (d : Device) :
    (modifySequencer p f d).ciu.curtains = d.ciu.curtains := rfl

@[simp] theorem enterSequence_curtains (p : Fin 2) (pc : PairConfig) (st : SequencerState) (t1 : Time) (d : Device) :
    (enterSequence p pc st t1 d).ciu.curtains = d.ciu.curtains := rfl

@[simp] theorem orphanExpires_curtains (p : Fin 2) (d : Device) :
    (orphanExpires p d).ciu.curtains = d.ciu.curtains := by
  unfold orphanExpires
  (repeat' split) <;> simp

@[simp] theorem outerEnd_curtains (p : Fin 2) (pc : PairConfig) (d : Device) :
    (outerEnd p pc d).ciu.curtains = d.ciu.curtains := by
  simp only [outerEnd]
  split <;> simp

@[simp] theorem afterPassage_curtains (p : Fin 2) (pc : PairConfig) (o : Option Time) (d : Device) :
    (afterPassage p pc o d).ciu.curtains = d.ciu.curtains := by
  simp only [afterPassage]
  (repeat' split) <;> simp

@[simp] theorem innerEnd_curtains (p : Fin 2) (pc : PairConfig) (beams masked : Byte) (d : Device) :
    (innerEnd p pc beams masked d).ciu.curtains = d.ciu.curtains := by
  simp only [innerEnd]
  split <;> simp

@[simp] theorem breakIgnored_curtains (c : Fin 4) (d : Device) :
    (breakIgnored c d).ciu.curtains = d.ciu.curtains := by
  simp only [breakIgnored]
  (repeat' split) <;> simp

/-! ### A curtain's counts formed again -/

@[simp] theorem curtain_raise (f : EventFlag) (d : Device) (c : Fin 4) : curtain (raise f d) c = curtain d c := rfl

@[simp] theorem setCurtain_self (c : Fin 4) (d : Device) : setCurtain c (curtain d c) d = d := by
  have e : d.ciu.curtains.set c.val (d.ciu.curtains.get c) c.isLt = d.ciu.curtains := Vector.set_getElem_self ..
  simp only [setCurtain, curtain, e]

theorem judgeDead_eq (c : Fin 4) (m : Nat) (d : Device) :
    judgeDead c m d =
      let dead := decide (beamCount usable (curtain d c) < m)
      let d1 := setCurtain c { curtain d c with dead := dead } d
      if dead && !(curtain d c).dead then raise .curtainDead d1 else d1 := rfl

@[simp] theorem judgeDead_ciu (c : Fin 4) (m : Nat) (d : Device) :
    (judgeDead c m d).ciu
      = (setCurtain c { curtain d c with dead := decide (beamCount usable (curtain d c) < m) } d).ciu := by
  simp only [judgeDead_eq]
  split <;> simp

@[simp] theorem curtain_judgeDead (c : Fin 4) (m : Nat) (d : Device) :
    curtain (judgeDead c m d) c = { curtain d c with dead := decide (beamCount usable (curtain d c) < m) } := by
  rw [curtain, judgeDead_ciu]
  exact curtain_setCurtain_same _ _ _

theorem setsJoined_clear {x : Curtain} (h : x.breakState = .clear) : setsJoined x = x := by simp [setsJoined, h]

/-- R8: beams join the sets of a break in progress. -/
theorem setsJoined_active {x : Curtain} (h : x.breakState ≠ .clear) :
    setsJoined x = { x with
      breakBeams := x.breakBeams ||| beamSet interrupted x,
      breakMasked := x.breakMasked ||| beamSet maskedUnforced x } := by
  unfold setsJoined
  split
  · exact absurd ‹_› h
  all_goals rfl

@[simp] theorem setsJoined_frame (x : Curtain) :
    (setsJoined x).beams = x.beams ∧ (setsJoined x).breakState = x.breakState ∧ (setsJoined x).dead = x.dead := by
  unfold setsJoined
  split <;> simp

/-- R8 to R10: the break judged writes one curtain, whose beams and dead flag stay. -/
theorem judgeBreak_curtains (c : Fin 4) (pc : PairConfig) (d : Device) :
    ∃ x : Curtain, x.beams = (curtain d c).beams ∧ x.dead = (curtain d c).dead
      ∧ (judgeBreak c pc d).ciu.curtains = (setCurtain c x d).ciu.curtains := by
  cases h : (curtain d c).breakState with
  | clear =>
    rw [judgeBreak_clear h]
    split
    · exact ⟨breakBegun d.clock pc.minBreak (curtain d c), rfl, rfl, rfl⟩
    · exact ⟨curtain d c, rfl, rfl, by simp⟩
  | pending =>
    rw [judgeBreak_pending h]
    split
    · exact ⟨curtain d c, rfl, rfl, by simp⟩
    · exact ⟨breakCleared (curtain d c), rfl, rfl, by simp⟩
  | broken =>
    rw [judgeBreak_broken h]
    split
    · exact ⟨curtain d c, rfl, rfl, by simp⟩
    · exact ⟨breakCleared (curtain d c), rfl, rfl, by split <;> simp⟩

/-- R4, R7 to R11: a change of a curtain writes that curtain alone, and leaves its beams. -/
theorem curtainChanged_curtains (c : Fin 4) (d : Device) :
    ∃ x : Curtain, x.beams = (curtain d c).beams
      ∧ (curtainChanged c d).ciu.curtains = (setCurtain c x d).ciu.curtains := by
  unfold curtainChanged
  split
  · exact ⟨curtain d c, rfl, by simp⟩
  · rename_i pc _
    obtain ⟨x, hb, -, hx⟩ := judgeBreak_curtains c pc (judgeDead c pc.minBeams (setCurtain c (setsJoined (curtain d c)) d))
    refine ⟨x, by simpa using hb, ?_⟩
    rw [hx]
    simp [setCurtain]

theorem curtainChanged_other {c k : Fin 4} (d : Device) (h : k ≠ c) :
    curtain (curtainChanged c d) k = curtain d k := by
  obtain ⟨x, -, hx⟩ := curtainChanged_curtains c d
  have e : curtain (curtainChanged c d) k = curtain (setCurtain c x d) k := congrArg (·.get k) hx
  rw [e, curtain_setCurtain_other c k x d h]

@[simp] theorem curtainChanged_beams (c : Fin 4) (d : Device) :
    (curtain (curtainChanged c d) c).beams = (curtain d c).beams := by
  obtain ⟨x, hb, hx⟩ := curtainChanged_curtains c d
  have e : curtain (curtainChanged c d) c = curtain (setCurtain c x d) c := congrArg (·.get c) hx
  rw [e, curtain_setCurtain_same, hb]

/-- R8: a change of a CLEAR curtain can begin a break, and reaches nothing beyond the curtains and the flags. -/
theorem curtainChanged_clear {c : Fin 4} {d : Device} (h : (curtain d c).breakState = .clear) :
    (curtainChanged c d).ciu.pairs = d.ciu.pairs ∧ (curtainChanged c d).liu = d.liu
      ∧ (curtainChanged c d).fx = d.fx ∧ (curtainChanged c d).htk = d.htk ∧ (curtainChanged c d).cpl = d.cpl
      ∧ (curtainChanged c d).cdu = d.cdu ∧ (curtainChanged c d).fdu = d.fdu := by
  unfold curtainChanged
  split
  · simp
  · rw [setsJoined_clear h, judgeBreak_clear (by simp [h])]
    split <;> simp

end Sys2Proof.Machine

/-! ## The blocks follow the station -/

namespace Sys2Proof.Machine

/-! ### Curtains.lean -/

theorem offerSighting_orderly {d : Device} (r : SightingRecord) (h : Orderly d) : Orderly (offerSighting r d) :=
  h.congr (by simp)

theorem emitApproaching_orderly {d : Device} (p : Fin 2) (pc : PairConfig) (t1 t2 : Time) (v : Nat × Bool)
    (band : Option (Nat × Nat) × Bool) (seq : Byte) (forced : Bool) (h : Orderly d) :
    Orderly (emitApproaching p pc t1 t2 v band seq forced d) := by
  unfold emitApproaching
  split
  · exact requestSighting_orderly _ (takeVerify_orderly _ _ _ h)
  · exact offerSighting_orderly _ (requestSighting_orderly _ h)

theorem innerEnd_orderly {d : Device} (p : Fin 2) (pc : PairConfig) (beams masked : Byte) (h : Orderly d) :
    Orderly (innerEnd p pc beams masked d) := by
  simp only [innerEnd]
  split
  · rename_i t1 t2 _ _ _
    exact (emitApproaching_orderly p pc t1 t2 (passageSpeed pc.b t1 t2) (heightBand pc.heights beams masked)
      (sequencer d p).approachSeq (sequencer d p).forcedSeen h).congr (by simp)
  · exact h

theorem judgeBreak_orderly {d : Device} (c : Fin 4) (pc : PairConfig) (h : Orderly d) : Orderly (judgeBreak c pc d) := by
  have hs : ∀ x, Orderly (setCurtain c x d) := fun x => h.congr (by simp)
  cases hb : (curtain d c).breakState with
  | clear =>
    rw [judgeBreak_clear hb]
    split
    · exact hs _
    · exact h
  | pending =>
    rw [judgeBreak_pending hb]
    split
    · exact h
    · exact h.congr (by simp)
  | broken =>
    rw [judgeBreak_broken hb]
    split
    · exact h
    · split
      · exact h.congr (by simp)
      · exact innerEnd_orderly _ _ _ _ (hs _)

theorem curtainChanged_orderly {d : Device} (c : Fin 4) (h : Orderly d) : Orderly (curtainChanged c d) := by
  unfold curtainChanged
  split
  · exact h
  · exact judgeBreak_orderly _ _ (h.congr (by simp))

theorem rawChange_orderly {d : Device} (c : Fin 4) (i : Fin 8) (l : Bool) (h : Orderly d) :
    Orderly (rawChange c i l d) := by
  simp only [rawChange]
  split
  · exact h
  · split
    · exact curtainChanged_orderly _ (h.congr (by simp))
    · exact h.congr (by simp)

theorem stuckExpires_orderly {d : Device} (c : Fin 4) (i : Fin 8) (h : Orderly d) : Orderly (stuckExpires c i d) := by
  unfold stuckExpires
  split
  · exact curtainChanged_orderly _ (h.congr (by simp))
  · exact h

theorem unmaskExpires_orderly {d : Device} (c : Fin 4) (i : Fin 8) (h : Orderly d) : Orderly (unmaskExpires c i d) := by
  unfold unmaskExpires
  split
  · exact curtainChanged_orderly _ (h.congr (by simp))
  · exact h

theorem forceCurtain_orderly {d : Device} (c : Fin 4) (mask pattern : Byte) (h : Orderly d) :
    Orderly (forceCurtain c mask pattern d) := by
  simp only [forceCurtain]
  split <;> exact curtainChanged_orderly _ (h.congr (by simp))

theorem evaluateCurtain_orderly {d : Device} (c : Fin 4) (h : Orderly d) : Orderly (evaluateCurtain c d) := by
  unfold evaluateCurtain
  split
  · exact curtainChanged_orderly _ (h.congr (by simp))
  · exact h

/-! ### Line.lean -/

/-- An operation of the line keeps the agreement when it leaves an EMPTY transmitter EMPTY and drives nothing. -/
theorem Orderly.line {d d' : Device} (h : Orderly d)
    (e : d'.cfl = d.cfl ∧ d'.fx = d.fx ∧ d'.cdu = d.cdu ∧ d'.fdu = d.fdu)
    (hl : d.liu.transmitter = .empty → d'.liu.transmitter = .empty ∧ d'.liu.driven = d.liu.driven) : Orderly d' := by
  obtain ⟨hc, hf, hcdu, hfdu⟩ := e
  by_cases hr : d.cfl.station = .running
  · exact h.running hr ⟨hc, hcdu, hfdu⟩
  · obtain ⟨-, ht, -, -⟩ := h.sends hr
    obtain ⟨ht', hd'⟩ := hl ht
    exact h.congr ⟨⟨hc, hf, ht'.trans ht.symm, hd'⟩, by simp [hcdu, hfdu]⟩

@[simp] theorem setLinePair_transmitter (p : LinePair) (x : PairState) (d : Device) :
    (setLinePair p x d).liu.transmitter = d.liu.transmitter ∧ (setLinePair p x d).liu.driven = d.liu.driven := by
  cases p <;> simp [setLinePair]

@[simp] theorem beginBusy_transmitter (d : Device) :
    (beginBusy d).liu.transmitter = d.liu.transmitter ∧ (beginBusy d).liu.driven = d.liu.driven := by simp [beginBusy]

theorem lineActive_empty {d : Device} (h : d.liu.transmitter = .empty) :
    (lineActive d).liu.transmitter = .empty ∧ (lineActive d).liu.driven = d.liu.driven := by
  unfold lineActive
  split <;> simp [h]

theorem takeTransition_orderly {d : Device} (p : LinePair) (heard : List LineSymbol) (h : Orderly d) :
    Orderly (takeTransition p heard d) := by
  refine h.line (by simp) fun ht => ?_
  simp only [takeTransition]
  split
  · exact ⟨ht, rfl⟩
  · split
    · simp [ht]
    · simpa using lineActive_empty (d := setLinePair p _ d) (by simpa using ht)

theorem takeQuiet_orderly {d : Device} (p : LinePair) (h : Orderly d) : Orderly (takeQuiet p d) := by
  refine h.congr ?_
  unfold takeQuiet
  split <;> simp

theorem handOn_orderly {d : Device} (station : Nat) (mark : Time) (frame : ReceivedFrame) (h : Orderly d) :
    Orderly (handOn station mark frame d) := by
  unfold handOn
  split
  · exact h.congr (by simp)
  · split
    · exact h
    · split
      · exact takeSighting_orderly _ h
      · exact h
  · split
    · exact takeClaim_orderly _ _ _ h
    · exact h
  · split
    · exact removeClaim_orderly _ h
    · exact h

/-- R197: SILENT empties the queue and the transmitter; the reports it sends reach the tracks alone. -/
theorem enterSilent_orderly {d : Device} (h : Orderly d) : Orderly (enterSilent d) := by
  obtain ⟨⟨hw, ⟨him, -, hread, hcommon, hnum⟩, -⟩, hl⟩ := h
  have hstation : d.cfl.station ≠ .loading := fun e => by simp [stationWorks, e] at hw
  refine forEach_keeps (fun e _ => reportDropped_orderly .flushed e) _ ⟨⟨rfl, ⟨?_, ?_, ?_, hcommon, hnum⟩, ?_⟩, hl⟩
  · exact him.trans hw
  · simp [silenceTransmitter]
  · exact fun k => absurd (hread k) hstation
  · simp [OnlyRunningSends, silenceTransmitter]

theorem takeClash_orderly {d : Device} (h : Orderly d) : Orderly (takeClash d) := by
  have h1 : Orderly (raise .clash d) := h.congr (by simp)
  unfold takeClash
  split
  · exact enterSilent_orderly h1
  · exact enterSilent_orderly h1
  · exact h1
  · exact h
  · exact h

theorem dispatchFrame_orderly {d : Device} (mark : Time) (body : List Byte) (h : Orderly d) :
    Orderly (dispatchFrame mark body d) := by
  unfold dispatchFrame
  split
  · split
    · split
      · exact h.congr (by simp)
      · exact h
    · exact takeClash_orderly h
  · split
    · exact handOn_orderly _ _ _ h
    · exact h

theorem idleInstant_orderly {d : Device} (h : Orderly d) : Orderly (idleInstant d) := by
  have h1 : Orderly (takeIdle d) := h.line (by simp) fun ht => by simp [takeIdle, ht]
  have h2 : ∀ a b, Orderly (judgePreference (updateQuality a b (takeIdle d))) := fun a b =>
    h1.line (by simp) fun ht => by
      simp only [judgePreference]
      split <;> simp [updateQuality, ht]
  simp only [idleInstant]
  split
  · exact dispatchFrame_orderly _ _ (h2 _ _)
  · exact h2 _ _

theorem quietExpires_orderly {d : Device} (h : Orderly d) : Orderly (quietExpires d) := by
  unfold quietExpires
  split
  · exact idleInstant_orderly h
  · exact h

theorem takeJabber_orderly {d : Device} (p : LinePair) (h : Orderly d) : Orderly (takeJabber p d) := by
  have h1 : ∀ x, Orderly (setLinePair p x d) := fun x => h.congr (by simp)
  rcases takeJabber_cases p d with e | ⟨-, -, ⟨-, e⟩ | ⟨-, e⟩⟩ <;> rw [e]
  · exact h
  · exact idleInstant_orderly (h1 _)
  · exact h1 _

theorem offerHead_orderly (n : Nat) {d : Device} (h : Orderly d) (hr : d.cfl.station = .running) :
    Orderly (offerHead n d) := by
  induction n generalizing d with
  | zero => exact h
  | succ n ih =>
    unfold offerHead
    split
    · exact h
    · rename_i e _ _
      have h1 : Orderly (removeEntry e.order d) := removeEntry_orderly _ h hr
      split
      · split
        · exact h.running hr (by simp)
        · exact ih h1 (by simpa using hr)
        · exact ih (reportDropped_orderly _ _ h1) (by simpa using hr)
      · exact h

theorem takeSlotEnd_orderly {d : Device} (h : Orderly d) : Orderly (takeSlotEnd d) := by
  unfold takeSlotEnd
  split
  · exact offerHead_orderly _ h ‹_›
  · exact h

theorem entryExpires_orderly {d : Device} (order : Nat) (h : Orderly d) : Orderly (entryExpires order d) := by
  by_cases hr : d.cfl.station = .running
  · unfold entryExpires
    split
    · split
      · exact reportDropped_orderly _ _ (removeEntry_orderly _ h hr)
      · exact h
    · exact h
  · obtain ⟨hq, -, -, -⟩ := h.sends hr
    simpa [entryExpires, findEntry, hq] using h

theorem takeCollision_orderly {d : Device} (h : Orderly d) (hr : d.cfl.station = .running) :
    Orderly (takeCollision d) := by
  simp only [takeCollision]
  split
  · exact h
  · rename_i order _
    have h1 : Orderly (cutFrame order d) := h.running hr (by simp)
    have hr1 : (cutFrame order d).cfl.station = .running := by simpa using hr
    split
    · simp only [giveUp]
      split
      · exact h1.running hr1 (by simp)
      · exact reportDropped_orderly _ _ (h1.running hr1 (by simp))
    · unfold collisionOutcome
      split
      · exact h1
      · split
        · exact removeEntry_orderly _ h1 hr1
        · exact entryExpires_orderly _ (modifyEntry_orderly _ _ h1 hr1)

theorem takeMismatch_orderly {d : Device} (p : LinePair) (h : Orderly d) : Orderly (takeMismatch p d) := by
  have h1 : ∀ x, Orderly (setLinePair p x d) := fun x => h.congr (by simp)
  simp only [takeMismatch]
  split
  · rename_i hm
    have hr : d.cfl.station = .running := by
      by_contra hr
      obtain ⟨-, ht, -, -⟩ := h.sends hr
      exact nomatch ht.symm.trans hm.1
    split
    · exact h1 _
    · exact takeCollision_orderly (h1 _) (by simpa using hr)
  · exact h

theorem takeSent_orderly {d : Device} (h : Orderly d) : Orderly (takeSent d) := by
  by_cases hr : d.cfl.station = .running
  · exact h.running hr (by simp)
  · obtain ⟨-, ht, -, -⟩ := h.sends hr
    simpa [takeSent, ht] using h

theorem presenceExpires_orderly {d : Device} (h : Orderly d) : Orderly (presenceExpires d) := by
  by_cases hr : d.cfl.station = .running
  · exact h.running hr (by simp)
  · obtain ⟨-, -, -, hp⟩ := h.sends hr
    simpa [presenceExpires, due, hp] using h

end Sys2Proof.Machine

namespace Sys2Proof.Machine

/-! ### A station that does not work holds its reset values -/

/-- The station does not work, its deadlines belong to its state, and the blocks hold their reset values. -/
structure Blank (d : Device) : Prop where
  works : stationWorks d = false
  station : StationAgrees d
  ciu : d.ciu = resetCiu d.ciu
  liu : d.liu = Liu.reset
  fx : d.fx = Fx.reset
  ptb : d.ptb = Ptb.reset
  htk : d.htk = Htk.reset
  cpl : d.cpl = Cpl.reset
  crs : d.crs = Crs.reset
  cdu : d.cdu = Cdu.reset
  fdu : d.fdu = Fdu.reset

/-- The blocks agree with the station's state, which works or does not. -/
def Agrees (d : Device) : Prop := Orderly d ∨ Blank d

theorem agrees_iff (d : Device) :
    Agrees d ↔ StationAgrees d ∧ OnlyRunningSends d ∧ ResetHeld d ∧ LockoutsAgree d := by
  constructor
  · rintro (⟨⟨hw, hst, hs⟩, hl⟩ | ⟨hw, hst, hciu, hliu, hfx, hptb, hhtk, hcpl, hcrs, hcdu, hfdu⟩)
    · exact ⟨hst, hs, fun n => by simp [hw] at n, hl⟩
    · refine ⟨hst, fun _ => ?_, fun _ => ⟨hciu, hliu, hfx, hptb, hhtk, hcpl, hcrs, hcdu, hfdu⟩, ?_⟩
      · simp [hfx, hliu, Fx.reset, Liu.reset]
      · simp [LockoutsAgree, hcdu, hfdu, Cdu.reset, Fdu.reset]
  · rintro ⟨hst, hs, hr, hl⟩
    cases hw : stationWorks d with
    | true => exact .inl ⟨⟨hw, hst, hs⟩, hl⟩
    | false =>
      obtain ⟨hciu, hliu, hfx, hptb, hhtk, hcpl, hcrs, hcdu, hfdu⟩ := hr hw
      exact .inr ⟨hw, hst, hciu, hliu, hfx, hptb, hhtk, hcpl, hcrs, hcdu, hfdu⟩

theorem Blank.congr {d d' : Device} (h : Blank d)
    (e : d'.cfl = d.cfl ∧ d'.ciu = d.ciu ∧ d'.liu = d.liu ∧ d'.fx = d.fx ∧ d'.ptb = d.ptb ∧ d'.htk = d.htk
      ∧ d'.cpl = d.cpl ∧ d'.crs = d.crs ∧ d'.cdu = d.cdu ∧ d'.fdu = d.fdu) : Blank d' := by
  obtain ⟨hc, h1, h2, h3, h4, h5, h6, h7, h8, h9⟩ := e
  obtain ⟨hw, hst, hciu, hliu, hfx, hptb, hhtk, hcpl, hcrs, hcdu, hfdu⟩ := h
  exact ⟨by simpa [stationWorks, hc] using hw, by simpa [StationAgrees, stationWorks, hc] using hst, by rwa [h1],
    by rwa [h2], by rwa [h3], by rwa [h4], by rwa [h5], by rwa [h6], by rwa [h7], by rwa [h8], by rwa [h9]⟩

/-- The clock, the pins and the record queue are free. -/
theorem Agrees.congr {d d' : Device} (h : Agrees d)
    (e : d'.cfl = d.cfl ∧ d'.ciu = d.ciu ∧ d'.liu = d.liu ∧ d'.fx = d.fx ∧ d'.ptb = d.ptb ∧ d'.htk = d.htk
      ∧ d'.cpl = d.cpl ∧ d'.crs = d.crs ∧ d'.cdu = d.cdu ∧ d'.fdu = d.fdu) : Agrees d' := by
  rcases h with h | h
  · obtain ⟨hc, -, h2, h3, -, -, -, -, h8, h9⟩ := e
    exact .inl (h.congr (by simp [hc, h2, h3, h8, h9]))
  · exact .inr (h.congr e)

/-- So is the indicator. -/
theorem Agrees.indicator {d : Device} (h : Agrees d) (i : Indicator) (a : Bool) (p : Option Time) :
    Agrees { d with cfl := { d.cfl with indicator := i, indActive := a, phaseDeadline := p } } := by
  rcases h with h | h
  · exact .inl ⟨⟨h.works, h.station, h.sends⟩, h.lockouts⟩
  · exact .inr ⟨h.works, h.station, h.ciu, h.liu, h.fx, h.ptb, h.htk, h.cpl, h.crs, h.cdu, h.fdu⟩

theorem refreshIndicator_agrees {d : Device} (h : Agrees d) : Agrees (refreshIndicator d) := by
  unfold refreshIndicator
  split
  · exact h
  · exact h.indicator _ _ _

/-! ### The CIU at its reset values -/

theorem vector_ext_get {α : Type} {n : Nat} {v w : Vector α n} (h : ∀ i, v.get i = w.get i) : v = w :=
  Vector.ext fun i hi => h ⟨i, hi⟩

theorem resetCiu_get (x : Ciu) (c : Fin 4) :
    (resetCiu x).curtains.get c = Curtain.reset (mapVec resetBeam (x.curtains.get c).beams) := mapVec_get _ _ _

/-- R24: a CIU holds its reset values exactly when its sequencers, curtains and beams do. -/
theorem eq_resetCiu_iff (x : Ciu) :
    x = resetCiu x ↔ x.pairs = Vector.replicate 2 Sequencer.reset
      ∧ ∀ c, x.curtains.get c = Curtain.reset (x.curtains.get c).beams
        ∧ ∀ i, (x.curtains.get c).beams.get i = resetBeam ((x.curtains.get c).beams.get i) := by
  constructor
  · intro h
    refine ⟨congrArg Ciu.pairs h, fun c => ?_⟩
    have hc : x.curtains.get c = Curtain.reset (mapVec resetBeam (x.curtains.get c).beams) :=
      (congrArg (fun y : Ciu => y.curtains.get c) h).trans (resetCiu_get x c)
    have hb : (x.curtains.get c).beams = mapVec resetBeam (x.curtains.get c).beams := congrArg Curtain.beams hc
    exact ⟨hc.trans (congrArg Curtain.reset hb.symm), fun i => (congrArg (·.get i) hb).trans (mapVec_get _ _ _)⟩
  · rintro ⟨hp, hc⟩
    have hcurtains : x.curtains = (resetCiu x).curtains := vector_ext_get fun c => by
      have hb : (x.curtains.get c).beams = mapVec resetBeam (x.curtains.get c).beams :=
        vector_ext_get fun i => by rw [mapVec_get]; exact (hc c).2 i
      exact ((hc c).1.trans (congrArg Curtain.reset hb)).trans (resetCiu_get x c).symm
    exact congrArg₂ Ciu.mk hcurtains hp

theorem resetCiu_twice (x : Ciu) : resetCiu x = resetCiu (resetCiu x) := by
  refine (eq_resetCiu_iff _).2 ⟨rfl, fun c => ?_⟩
  rw [resetCiu_get]
  exact ⟨rfl, fun i => by simp only [Curtain.reset, mapVec_get]; rfl⟩

theorem Blank.beam {d : Device} (h : Blank d) (c : Fin 4) (i : Fin 8) :
    (curtain d c).beams.get i = Beam.reset ((curtain d c).beams.get i).raw :=
  (((eq_resetCiu_iff _).1 h.ciu).2 c).2 i

theorem Blank.curtain {d : Device} (h : Blank d) (c : Fin 4) : curtain d c = Curtain.reset (curtain d c).beams :=
  (((eq_resetCiu_iff _).1 h.ciu).2 c).1

theorem Blank.sequencer {d : Device} (h : Blank d) (p : Fin 2) : sequencer d p = Sequencer.reset := by
  rw [Machine.sequencer, ((eq_resetCiu_iff _).1 h.ciu).1]
  simp [Vector.get]

theorem withBeam_reset {cu : Curtain} (h : cu = Curtain.reset cu.beams) (i : Fin 8) (b : Beam) :
    withBeam cu i b = Curtain.reset (withBeam cu i b).beams :=
  congrArg (fun x : Curtain => { x with beams := cu.beams.set i.val b i.isLt }) h

/-- A level that changes at an input leaves the reset values (log 25). -/
theorem eq_resetCiu_modifyBeam_raw {d : Device} (c : Fin 4) (i : Fin 8) (l : Bool) (h : d.ciu = resetCiu d.ciu) :
    (modifyBeam c i (fun b => { b with raw := l }) d).ciu
      = resetCiu (modifyBeam c i (fun b => { b with raw := l }) d).ciu := by
  obtain ⟨hp, hc⟩ := (eq_resetCiu_iff _).1 h
  refine (eq_resetCiu_iff _).2 ⟨hp, fun k => ?_⟩
  have e : (modifyBeam c i (fun b => { b with raw := l }) d).ciu.curtains.get k
      = if k = c then withBeam (Machine.curtain d c) i { (Machine.curtain d c).beams.get i with raw := l }
        else d.ciu.curtains.get k := by
    rw [modifyBeam_eq]
    exact vectorGet_set _ _ _ _
  rw [e]
  split
  · obtain ⟨hcu, hb⟩ := hc c
    refine ⟨?_, fun j => ?_⟩
    · exact withBeam_reset hcu i _
    · rw [get_withBeam]
      split
      · exact congrArg (fun b : Beam => { b with raw := l }) (hb i)
      · exact hb j
  · exact hc k

end Sys2Proof.Machine

namespace Sys2Proof.Machine

/-! ### Station.lean -/

theorem resetBlocks_blank (d : Device) : Blank (resetBlocks d) where
  works := rfl
  station := by simp [StationAgrees, resetBlocks, Cfl.reset, stationWorks]
  ciu := resetCiu_twice d.ciu
  liu := rfl
  fx := rfl
  ptb := rfl
  htk := rfl
  cpl := rfl
  crs := rfl
  cdu := rfl
  fdu := rfl

/-- R190, R194: a load begins in LOADING, or in CONFIG_FAULT with straps at 0. -/
theorem enterLoading_blank {d : Device} (h : Blank d) (hc : d.cfl = Cfl.reset) : Blank (enterLoading d) := by
  have hciu : (enterLoading d).ciu = resetCiu (enterLoading d).ciu := by simpa using h.ciu
  refine ⟨?_, ?_, hciu, by simp [h.liu], by simp [h.fx], by simp [h.ptb], by simp [h.htk], by simp [h.cpl],
    by simp [h.crs], by simp [h.cdu], by simp [h.fdu]⟩
  · unfold enterLoading
    split <;> rfl
  · by_cases hz : d.pins.stn = 0#5
    · simp [enterLoading, startPattern, hz, hc, Cfl.reset, StationAgrees, stationWorks]
    · have hpos : d.pins.stn.toNat ≠ 0 := fun k => hz (BitVec.eq_of_toNat_eq k)
      have hlt : d.pins.stn.toNat < 32 := d.pins.stn.isLt
      simp [enterLoading, startPattern, startRead, hz, hc, Cfl.reset, StationAgrees, stationWorks]
      omega

theorem evaluateCurtain_other {c k : Fin 4} (d : Device) (h : k ≠ c) :
    curtain (evaluateCurtain c d) k = curtain d k := by
  unfold evaluateCurtain
  split
  · rw [curtainChanged_other _ h, curtain_setCurtain_other _ _ _ _ h]
  · rfl

theorem evaluateCurtain_cdu {c : Fin 4} {d : Device} (h : (curtain d c).breakState = .clear) :
    (evaluateCurtain c d).cdu = d.cdu := by
  unfold evaluateCurtain
  split
  · rw [(curtainChanged_clear (by simpa using h)).2.2.2.2.2.1]
    simp
  · rfl

/-- R2: the evaluation that begins on CLEAR curtains leaves the camera. -/
theorem startEvaluation_cdu {d : Device} (h : ∀ c, (curtain d c).breakState = .clear) :
    (startEvaluation d).cdu = d.cdu := by
  change (evaluateCurtain 3 (evaluateCurtain 2 (evaluateCurtain 1 (evaluateCurtain 0 d)))).cdu = d.cdu
  rw [evaluateCurtain_cdu, evaluateCurtain_cdu, evaluateCurtain_cdu, evaluateCurtain_cdu (h 0)]
  all_goals simp [evaluateCurtain_other, h]

/-- R195: LISTENING is entered from LOADING with no page read under way. -/
theorem enterListening_orderly {d : Device} (im : Image) (h : Blank d) (hr : d.cfl.reading = none)
    (hc : d.cfl.commonAt = none) : Orderly (enterListening im d) := by
  simp only [enterListening]
  generalize hd1 : ({ d with cfl := _ } : Device) = d1
  have h1 : Orderly d1 := by
    subst hd1
    refine ⟨⟨rfl, ⟨rfl, fun _ => rfl, ?_, fun _ => hc, h.station.2.2.2.2⟩, fun _ => ?_⟩, ?_⟩
    · simp [hr, hc]
    · simp [h.fx, h.liu, Fx.reset, Liu.reset]
    · simp [LockoutsAgree, h.cdu, h.fdu, Cdu.reset, Fdu.reset]
  have hclear : ∀ c, (curtain d1 c).breakState = .clear := fun c => by
    subst hd1
    exact congrArg Curtain.breakState (h.curtain c)
  have hcdu : (startEvaluation d1).cdu = Cdu.reset := by
    rw [startEvaluation_cdu hclear, ← h.cdu, ← hd1]
  have h2 : Orderly (startEvaluation d1) := forEach_keeps (fun c _ => evaluateCurtain_orderly c) _ h1
  have h3 : Orderly (fixVerifySides im (startWatching (startEvaluation d1))) := h2.congr (by simp [startWatching])
  split
  · exact startBoot_orderly _ h3 (by simp [hcdu, Cdu.reset])
  · exact h3

theorem usePage_orderly {d : Device} (used : PageUsed) (page : List Byte) (h : Blank d) (hr : d.cfl.reading = none)
    (hc : d.cfl.commonAt = none) : Orderly (usePage used page d) := by
  have h1 : Blank { d with cfl := { d.cfl with pageUsed := used } } :=
    ⟨h.works, h.station, h.ciu, h.liu, h.fx, h.ptb, h.htk, h.cpl, h.crs, h.cdu, h.fdu⟩
  simp only [usePage]
  split
  · exact enterListening_orderly _ (h1.congr (by simp)) (by simpa using hr) (by simpa using hc)
  · exact enterListening_orderly _ h1 hr hc

/-- A working station reads no page. -/
theorem Steady.no_page {d : Device} (h : Steady d) : d.cfl.reading = none ∧ d.cfl.commonAt = none := by
  have hn : d.cfl.station ≠ .loading := fun e => by simpa [stationWorks, e] using h.works
  have hs := h.station.2.2.1
  constructor <;> by_contra k <;> exact hn (hs (by simp [Option.isSome_iff_ne_none, k]))

/-- R191: the end of a page read that is under way. -/
theorem pageComplete_agrees {d : Device} (page : List Byte) (camRdy : Bool) (h : Agrees d) :
    Agrees (pageComplete page camRdy d) := by
  rcases h with h | h
  · have e : pageComplete page camRdy d = d := by simp [pageComplete, due, h.toSteady.no_page.1]
    rw [e]
    exact .inl h
  · simp only [pageComplete]
    split
    · exact .inr h
    · rename_i hdue
      have hread : d.cfl.reading.isSome = true := by
        cases hr : d.cfl.reading with
        | none => simp [due, hr] at hdue
        | some _ => rfl
      obtain ⟨him, hlisten, hload, hcommon, hnum⟩ := h.station
      have hst : d.cfl.station = .loading := hload (.inl hread)
      have hc : d.cfl.commonAt = none := hcommon hread
      have hl : d.cfl.listeningDeadline = none := by
        by_contra k
        exact nomatch hst.symm.trans (hlisten (Option.isSome_iff_ne_none.2 k))
      have hi : d.cfl.image = none := by simpa [h.works] using him
      have blank : ∀ d' : Device, stationWorks d' = false → StationAgrees d' → d'.ciu = d.ciu → d'.liu = d.liu →
          d'.fx = d.fx → d'.ptb = d.ptb → d'.htk = d.htk → d'.cpl = d.cpl → d'.crs = d.crs → d'.cdu = d.cdu →
          d'.fdu = d.fdu → Blank d' := by
        intro d' hw hs h1 h2 h3 h4 h5 h6 h7 h8 h9
        exact ⟨hw, hs, by rw [h1]; exact h.ciu, h2.trans h.liu, h3.trans h.fx, h4.trans h.ptb, h5.trans h.htk,
          h6.trans h.cpl, h7.trans h.crs, h8.trans h.cdu, h9.trans h.fdu⟩
      have h1 : Blank { d with pins := { d.pins with camRdy := camRdy }, cfl := { d.cfl with reading := none } } :=
        blank _ h.works ⟨him, hlisten, fun _ => hst, nofun, hnum⟩ rfl rfl rfl rfl rfl rfl rfl rfl rfl
      split
      · split
        · exact .inl (usePage_orderly _ _ h1 rfl hc)
        · exact .inr (blank _ h.works ⟨him, hlisten, fun _ => hst, nofun, hnum⟩ rfl rfl rfl rfl rfl rfl rfl rfl rfl)
      · split
        · exact .inl (usePage_orderly _ _ h1 rfl hc)
        · exact .inr (blank _ rfl ⟨by simp [hi, stationWorks], by simp [hl], by simp [hc], nofun, hnum⟩
            rfl rfl rfl rfl rfl rfl rfl rfl rfl)
      · exact .inr h1
      · exact .inr h1

theorem commonStart_agrees {d : Device} (h : Agrees d) : Agrees (commonStart d) := by
  rcases h with h | h
  · have e : commonStart d = d := by simp [commonStart, due, h.toSteady.no_page.2]
    rw [e]
    exact .inl h
  · unfold commonStart
    split
    · rename_i hdue
      have hc : d.cfl.commonAt.isSome = true := by
        cases hr : d.cfl.commonAt with
        | none => simp [due, hr] at hdue
        | some _ => rfl
      obtain ⟨him, hlisten, hload, -, hnum⟩ := h.station
      have hst : d.cfl.station = .loading := hload (.inr hc)
      exact .inr ⟨h.works, ⟨him, hlisten, fun _ => hst, fun _ => rfl, hnum⟩, h.ciu, h.liu, h.fx, h.ptb, h.htk, h.cpl,
        h.crs, h.cdu, h.fdu⟩
    · exact .inr h

theorem enterRunning_orderly {d : Device} (h : Orderly d) : Orderly (enterRunning d) := by
  obtain ⟨hr, hc⟩ := h.toSteady.no_page
  refine requestPresence_orderly ⟨⟨rfl, ⟨h.station.1.trans h.works, nofun, ?_, fun _ => hc, h.station.2.2.2.2⟩,
    fun n => absurd rfl n⟩, h.lockouts⟩
  simp [hr, hc]

theorem listeningExpires_agrees {d : Device} (h : Agrees d) : Agrees (listeningExpires d) := by
  unfold listeningExpires
  split
  · rename_i hdue
    rcases h with h | h
    · exact .inl (enterRunning_orderly h)
    · have hl : d.cfl.listeningDeadline.isSome = true := by
        cases hr : d.cfl.listeningDeadline with
        | none => simp [due, hr] at hdue
        | some _ => rfl
      simpa [stationWorks, h.station.2.1 hl] using h.works
  · exact h

theorem phaseExpires_agrees {d : Device} (h : Agrees d) : Agrees (phaseExpires d) := by
  unfold phaseExpires
  split
  · exact h.indicator _ _ _
  · exact h

/-- A reset with the record queue replaced is followed by a load (R187, R189). -/
theorem reload_agrees (r : Rqs) (d : Device) : Agrees (enterLoading { resetBlocks d with rqs := r }) := by
  have h : Blank { resetBlocks d with rqs := r } := (resetBlocks_blank d).congr (by simp)
  exact .inr (enterLoading_blank h rfl)

theorem powerOnReset_agrees (stn : BitVec 5) (role : Role) (d : Device) : Agrees (powerOnReset stn role d) :=
  refreshIndicator_agrees (reload_agrees _ _)

theorem heldReset_agrees (d : Device) : Agrees (heldReset d) := .inr (resetBlocks_blank _)

/-! ### Service.lean -/

theorem takeForce_agrees {d : Device} (c : Fin 4) (mask pattern : Byte) (h : Agrees d) :
    Agrees (takeForce c mask pattern d) := by
  unfold takeForce
  split
  · rename_i hw
    rcases h with h | h
    · exact Agrees.congr (.inl (forceCurtain_orderly c mask pattern h)) (by simp)
    · exact absurd (hw.symm.trans h.works) (by simp)
  · exact h.congr (by simp)

theorem takeClear_agrees {d : Device} (u : LockoutUnit) (h : Agrees d) : Agrees (takeClear u d) := by
  have camera : ∀ x, Agrees x → Agrees (clearCamera x) := by
    rintro x (h | h)
    · exact .inl (clearCamera_orderly h)
    · have e : clearCamera x = x := by simp [clearCamera, h.cdu, Cdu.reset]
      rw [e]
      exact .inr h
  have flash : ∀ x, Agrees x → Agrees (clearFlash x) := by
    rintro x (h | h)
    · exact .inl (clearFlash_orderly h)
    · have e : clearFlash x = x := by simp [clearFlash, h.fdu, Fdu.reset]
      rw [e]
      exact .inr h
  have h1 : Agrees (if namesCamera u then clearCamera d else d) := by
    split
    · exact camera _ h
    · exact h
  simp only [takeClear]
  split
  · exact (flash _ h1).congr (by simp)
  · exact h1.congr (by simp)

theorem takeRestart_agrees (d : Device) : Agrees (takeRestart d) :=
  (reload_agrees (Rqs.reset d.rqs.passage (flagBit .restarted)) d).congr ⟨rfl, rfl, rfl, rfl, rfl, rfl, rfl, rfl, rfl, rfl⟩

theorem takeCommand_agrees {d : Device} (c : ServiceCommand) (h : Agrees d) : Agrees (takeCommand c d) := by
  cases c with
  | forceBeams k mask pattern => exact takeForce_agrees _ _ _ h
  | clearLockout u => exact takeClear_agrees _ h
  | restart => exact takeRestart_agrees d
  | _ => exact h.congr (by simp [takeCommand])

theorem judgeInHand_agrees {d : Device} (bytes : List Byte) (h : Agrees d) : Agrees (judgeInHand bytes d) := by
  unfold judgeInHand
  split
  · unfold completeCommand
    split
    · exact takeCommand_agrees _ h
    · exact h.congr (by simp)
    · exact h.congr (by simp)
  · exact h.congr (by simp)

theorem receiveByte_agrees {d : Device} (bad : Bool) (b : Byte) (h : Agrees d) : Agrees (receiveByte bad b d) := by
  have discard : Agrees (receiverTo .discarding [] (raise .serviceError d)) := h.congr (by simp)
  unfold receiveByte
  split
  · split
    · exact h.congr (by simp)
    · exact discard
  · split
    · exact discard
    · split
      · exact judgeInHand_agrees _ (h.congr (by simp))
      · exact h.congr (by simp)
  · exact h.congr (by simp)

theorem receiveCommand_agrees {d : Device} (bytes : List Byte) (h : Agrees d) : Agrees (receiveCommand bytes d) :=
  forEach_keeps (fun b _ => receiveByte_agrees false b) _ h

theorem replyEnds_agrees {d : Device} (stn : BitVec 5) (role : Role) (camRdy : Bool) (h : Agrees d) :
    Agrees (replyEnds stn role camRdy d) := by
  unfold replyEnds
  split
  · exact h
  · exact h.congr (by simp)
  · exact takeCommand_agrees _ (h.congr (by simp))

end Sys2Proof.Machine

namespace Sys2Proof.Machine

/-! ### The commands -/

/-- An effect that keeps a working station in order, and leaves one that does not work as it is. -/
theorem Agrees.of_cases {f : Device → Device} {d : Device} (h : Agrees d) (ho : Orderly d → Orderly (f d))
    (hb : Blank d → f d = d) : Agrees (f d) := by
  rcases h with h | h
  · exact .inl (ho h)
  · rw [hb h]
    exact .inr h

theorem Blank.not_running {d : Device} (h : Blank d) : d.cfl.station ≠ .running :=
  fun e => by simpa [stationWorks, e] using h.works

theorem rawChange_agrees {d : Device} (c : Fin 4) (i : Fin 8) (l : Bool) (h : Agrees d) :
    Agrees (rawChange c i l d) := by
  rcases h with h | h
  · exact .inl (rawChange_orderly c i l h)
  · simp only [rawChange, h.works, Bool.false_and]
    split
    · exact .inr h
    · exact .inr ⟨h.works, h.station, eq_resetCiu_modifyBeam_raw c i l h.ciu, h.liu, h.fx, h.ptb, h.htk, h.cpl, h.crs,
        h.cdu, h.fdu⟩

theorem stuckExpires_agrees {d : Device} (c : Fin 4) (i : Fin 8) (h : Agrees d) : Agrees (stuckExpires c i d) :=
  h.of_cases (stuckExpires_orderly c i) fun h => by
    unfold stuckExpires
    rw [h.beam c i]
    simp [Beam.reset, due]

theorem unmaskExpires_agrees {d : Device} (c : Fin 4) (i : Fin 8) (h : Agrees d) : Agrees (unmaskExpires c i d) :=
  h.of_cases (unmaskExpires_orderly c i) fun h => by
    unfold unmaskExpires
    rw [h.beam c i]
    simp [Beam.reset, due]

theorem validationExpires_agrees {d : Device} (c : Fin 4) (h : Agrees d) : Agrees (validationExpires c d) :=
  h.of_cases (fun h => h.congr (by simp)) fun h => by
    have hv : (curtain d c).validationDeadline = none := congrArg Curtain.validationDeadline (h.curtain c)
    simp [validationExpires, hv, due]

/-- What ORPHAN_DEADLINE_EXPIRES does of a sequencer that holds no deadline. -/
theorem orphan_agrees {d : Device} (p : Fin 2) (h : Agrees d) :
    Agrees (if due (sequencer d p).orphanDeadline d.clock then orphanExpires p d else d) := by
  split
  · rename_i hdue
    rcases h with h | h
    · exact .inl (h.congr (by simp))
    · simp [h.sequencer p, Sequencer.reset, due] at hdue
  · exact h

theorem takeTransition_agrees {d : Device} (p : LinePair) (heard : List LineSymbol) (h : Agrees d) :
    Agrees (takeTransition p heard d) :=
  h.of_cases (takeTransition_orderly p heard) fun h => by simp [takeTransition, h.works]

theorem Blank.linePair {d : Device} (h : Blank d) (p : LinePair) : linePair d p = PairState.reset := by
  cases p <;> simp [Machine.linePair, h.liu, Liu.reset]

theorem takeJabber_agrees {d : Device} (p : LinePair) (h : Agrees d) : Agrees (takeJabber p d) :=
  h.of_cases (takeJabber_orderly p) fun h => by simp [takeJabber, h.linePair, PairState.reset, due]

theorem takeQuiet_agrees {d : Device} (p : LinePair) (h : Agrees d) : Agrees (takeQuiet p d) :=
  h.of_cases (takeQuiet_orderly p) fun h => by simp [takeQuiet, h.linePair, PairState.reset, due]

theorem quietExpires_agrees {d : Device} (h : Agrees d) : Agrees (quietExpires d) :=
  h.of_cases quietExpires_orderly fun h => by simp [quietExpires, h.liu, Liu.reset, due]

theorem takeSlotEnd_agrees {d : Device} (h : Agrees d) : Agrees (takeSlotEnd d) :=
  h.of_cases takeSlotEnd_orderly fun h => by simp [takeSlotEnd, h.not_running]

theorem takeMismatch_agrees {d : Device} (p : LinePair) (h : Agrees d) : Agrees (takeMismatch p d) :=
  h.of_cases (takeMismatch_orderly p) fun h => by simp [takeMismatch, h.liu, Liu.reset]

theorem takeSent_agrees {d : Device} (h : Agrees d) : Agrees (takeSent d) :=
  h.of_cases takeSent_orderly fun h => by simp [takeSent, h.liu, Liu.reset]

theorem entryExpires_agrees {d : Device} (order : Nat) (h : Agrees d) : Agrees (entryExpires order d) :=
  h.of_cases (entryExpires_orderly order) fun h => by simp [entryExpires, findEntry, h.fx, Fx.reset]

theorem presenceExpires_agrees {d : Device} (h : Agrees d) : Agrees (presenceExpires d) :=
  h.of_cases presenceExpires_orderly fun h => by simp [presenceExpires, h.fx, Fx.reset, due]

/-- R79: no peer is known. -/
theorem Blank.peer {d : Device} (h : Blank d) (p : Nat) : peer d p = PeerEntry.absent := by
  unfold Machine.peer
  split
  · split
    · rfl
    · simp [h.ptb, Ptb.reset, Vector.get]
  · rfl

theorem staleExpires_agrees {d : Device} (p : Nat) (h : Agrees d) : Agrees (staleExpires p d) :=
  h.of_cases (fun h => h.congr (by simp)) fun h => by simp [staleExpires, h.peer, PeerEntry.absent]

theorem lostExpires_agrees {d : Device} (p : Nat) (h : Agrees d) : Agrees (lostExpires p d) :=
  h.of_cases (fun h => h.congr (by simp)) fun h => by simp [lostExpires, h.peer, PeerEntry.absent]

theorem Blank.findTrack {d : Device} (h : Blank d) (id : Byte) : findTrack d id = none := by
  simp [Machine.findTrack, h.htk, Htk.reset]

theorem horizonExpires_agrees {d : Device} (id : Byte) (h : Agrees d) : Agrees (horizonExpires id d) := by
  refine h.of_cases (fun h => ?_) fun h => by simp [horizonExpires, h.findTrack]
  unfold horizonExpires
  split
  · split
    · exact planTrack_orderly _ h
    · exact h
  · exact h

theorem missExpires_agrees {d : Device} (id : Byte) (h : Agrees d) : Agrees (missExpires id d) := by
  refine h.of_cases (fun h => ?_) fun h => by simp [missExpires, h.findTrack]
  unfold missExpires
  split
  · split
    · exact closeTrack_orderly _ _ _ h
    · exact h
  · exact h

theorem armPointExpires_agrees {d : Device} (id : Byte) (h : Agrees d) : Agrees (armPointExpires id d) := by
  refine h.of_cases (fun h => ?_) fun h => by simp [armPointExpires, h.findTrack]
  unfold armPointExpires
  split
  · split
    · exact armTrack_orderly _ h
    · exact h
  · exact h

theorem orderEnds_agrees {d : Device} (h : Agrees d) : Agrees (orderEnds d) := by
  refine h.of_cases (fun h => ?_) fun h => by simp [orderEnds, h.cdu, Cdu.reset, due]
  unfold orderEnds
  split
  · exact issuePulses_orderly (h.congr (by simp))
  · exact h

theorem claimExpires_agrees {d : Device} (key : ClaimKey) (h : Agrees d) : Agrees (claimExpires key d) := by
  refine h.of_cases (fun h => ?_) fun h => by simp [claimExpires, h.crs, Crs.reset]
  unfold claimExpires
  split
  · split
    · exact h
    · exact removeClaim_orderly _ h
  · exact h

theorem bootDeadlineExpires_agrees {d : Device} (h : Agrees d) : Agrees (bootDeadlineExpires d) := by
  refine h.of_cases (fun h => ?_) fun h => ?_
  · unfold bootDeadlineExpires
    split
    · split
      · exact bootExpires_orderly _ h ‹_›
      · exact h
    · exact h
  · unfold bootDeadlineExpires
    split
    · simp [h.cdu, Cdu.reset, due]
    · rfl

theorem readyArrives_agrees {d : Device} (h : Agrees d) : Agrees (readyArrives d) := by
  have h1 : Agrees { d with pins := { d.pins with camRdy := true } } := h.congr (by simp)
  exact h1.of_cases takeReady_orderly fun h => by
    have hc : d.cdu = Cdu.reset := h.cdu
    simp [takeReady, hc, Cdu.reset]

theorem readyExpires_agrees {d : Device} (h : Agrees d) : Agrees (readyExpires d) := by
  refine h.of_cases (fun h => ?_) fun h => by simp [readyExpires, h.cdu, Cdu.reset]
  unfold readyExpires
  split
  · split
    · exact h
    · exact timeOut_orderly h ‹_›
  · exact h

theorem issuePulses_agrees {d : Device} (h : Agrees d) : Agrees (issuePulses d) :=
  h.of_cases issuePulses_orderly fun h => by simp [issuePulses, h.cdu, Cdu.reset]

theorem triggerEnds_agrees {d : Device} (h : Agrees d) : Agrees (triggerEnds d) := by
  refine h.of_cases (fun h => ?_) fun h => by simp [triggerEnds, h.cdu, Cdu.reset, due]
  unfold triggerEnds
  split
  · exact issuePulses_orderly (h.congr (by simp))
  · exact h

theorem flashReached_agrees {d : Device} (id : Byte) (k : Nat) (h : Agrees d) : Agrees (flashReached id k d) := by
  refine h.of_cases (fun h => ?_) fun h => by simp [flashReached, h.fdu, Fdu.reset]
  unfold flashReached
  split
  · split
    · exact h
    · exact decideFlash_orderly _ _ (h.congr (by simp))
  · exact h

theorem fireEnds_agrees {d : Device} (h : Agrees d) : Agrees (fireEnds d) := by
  refine h.of_cases (fun h => ?_) fun h => by simp [fireEnds, h.fdu, Fdu.reset, due]
  unfold fireEnds
  split
  · exact h.congr (by simp)
  · exact h

theorem takeReturn_agrees {d : Device} (h : Agrees d) : Agrees (takeReturn d) :=
  h.of_cases takeReturn_orderly fun h => by simp [takeReturn, h.fdu, Fdu.reset]

theorem returnExpires_agrees {d : Device} (id : Byte) (k : Nat) (h : Agrees d) : Agrees (returnExpires id k d) := by
  refine h.of_cases (fun h => ?_) fun h => by simp [returnExpires, h.fdu, Fdu.reset]
  unfold returnExpires
  split
  · split
    · exact h
    · exact misfire_orderly _ h
  · exact h

/-! ### Every step -/

/-- A command taken keeps the agreement when its effect does. -/
theorem taken_agrees {t : Time} {f : Device → Device} {s : State} (hf : ∀ d, Agrees d → Agrees (f d))
    (h : Agrees s.dev) : ∃ s', taken t f s = .next s' ∧ Agrees s'.dev := by
  refine ⟨_, rfl, ?_⟩
  simp only
  split
  · exact h
  · exact refreshIndicator_agrees (hf _ (h.congr (by simp)))

/-- Every command answers a next state in which the blocks agree with the station. -/
theorem exec_agrees (i : Instr) {s : State} (h : Agrees s.dev) : ∃ s', exec i s = .next s' ∧ Agrees s'.dev := by
  cases i with
  | powerOn stn role => exact ⟨_, rfl, powerOnReset_agrees stn role s.dev⟩
  | rstNAsserted => exact ⟨_, rfl, heldReset_agrees s.dev⟩
  | rawLevelChange t c i l =>
    change ∃ s', execRawLevelChange t c i l s = .next s' ∧ Agrees s'.dev
    unfold execRawLevelChange
    split
    · refine ⟨_, rfl, ?_⟩
      rcases h with h | h
      · exact .inl (h.congr (by simp))
      · exact .inr ⟨h.works, h.station, eq_resetCiu_modifyBeam_raw c i l h.ciu, h.liu, h.fx, h.ptb, h.htk, h.cpl,
          h.crs, h.cdu, h.fdu⟩
    · exact taken_agrees (fun _ => rawChange_agrees c i l) h
  | pageReadComplete t page camRdy => exact taken_agrees (fun _ => pageComplete_agrees page camRdy) h
  | commonPageReadStart t => exact taken_agrees (fun _ => commonStart_agrees) h
  | listeningDeadlineExpires t => exact taken_agrees (fun _ => listeningExpires_agrees) h
  | indicatorPhaseExpires t => exact taken_agrees (fun _ => phaseExpires_agrees) h
  | stuckDeadlineExpires t c i => exact taken_agrees (fun _ => stuckExpires_agrees c i) h
  | unmaskDeadlineExpires t c i => exact taken_agrees (fun _ => unmaskExpires_agrees c i) h
  | validationDeadlineExpires t c => exact taken_agrees (fun _ => validationExpires_agrees c) h
  | orphanDeadlineExpires t p => 
    exact taken_agrees (f := fun d => if due (sequencer d p).orphanDeadline d.clock then orphanExpires p d else d)
      (fun _ => orphan_agrees p) h
  | lineTransition t p heard => exact taken_agrees (fun _ => takeTransition_agrees p heard) h
  | enterJabbering t p => exact taken_agrees (fun _ => takeJabber_agrees p) h
  | pairQuiet t p => exact taken_agrees (fun _ => takeQuiet_agrees p) h
  | quietDeadlineExpires t => exact taken_agrees (fun _ => quietExpires_agrees) h
  | slotEnd t => exact taken_agrees (fun _ => takeSlotEnd_agrees) h
  | readbackMismatch t p => exact taken_agrees (fun _ => takeMismatch_agrees p) h
  | frameSent t => exact taken_agrees (fun _ => takeSent_agrees) h
  | outboundEntryExpires t order => exact taken_agrees (fun _ => entryExpires_agrees order) h
  | presenceDeadlineExpires t => exact taken_agrees (fun _ => presenceExpires_agrees) h
  | staleDeadlineExpires t p => exact taken_agrees (fun _ => staleExpires_agrees p) h
  | lostDeadlineExpires t p => exact taken_agrees (fun _ => lostExpires_agrees p) h
  | planHorizonDeadlineExpires t id => exact taken_agrees (fun _ => horizonExpires_agrees id) h
  | missDeadlineExpires t id => exact taken_agrees (fun _ => missExpires_agrees id) h
  | armPointDeadlineExpires t id => exact taken_agrees (fun _ => armPointExpires_agrees id) h
  | orderMessageEnd t => exact taken_agrees (fun _ => orderEnds_agrees) h
  | neighbourClaimExpires t p id => exact taken_agrees (fun _ => claimExpires_agrees _) h
  | bootDeadlineExpires t => exact taken_agrees (fun _ => bootDeadlineExpires_agrees) h
  | ready t => exact taken_agrees (fun _ => readyArrives_agrees) h
  | readyDeadlineExpires t => exact taken_agrees (fun _ => readyExpires_agrees) h
  | pulseTimeReached t id k =>
    refine taken_agrees (f := fun d => if pulseReached d id k then issuePulses d else d) (fun d hd => ?_) h
    split
    · exact issuePulses_agrees hd
    · exact hd
  | issuePulse t => exact taken_agrees (fun _ => issuePulses_agrees) h
  | triggerEnd t => exact taken_agrees (fun _ => triggerEnds_agrees) h
  | flashInstant t id k => exact taken_agrees (fun _ => flashReached_agrees id k) h
  | flashFireEnd t => exact taken_agrees (fun _ => fireEnds_agrees) h
  | flashReturn t => exact taken_agrees (fun _ => takeReturn_agrees) h
  | returnDeadlineExpires t id k => exact taken_agrees (fun _ => returnExpires_agrees id k) h
  | status t => exact taken_agrees (fun _ => receiveCommand_agrees _) h
  | takeRecord t => exact taken_agrees (fun _ => receiveCommand_agrees _) h
  | peekPeers t => exact taken_agrees (fun _ => receiveCommand_agrees _) h
  | peekTracks t => exact taken_agrees (fun _ => receiveCommand_agrees _) h
  | forceBeams t c mask pattern => exact taken_agrees (fun _ => receiveCommand_agrees _) h
  | clearLockout t u camRdy =>
    exact taken_agrees (f := fun d => receiveCommand (commandBytes (.clearLockout u))
      { d with pins := { d.pins with camRdy := camRdy } }) (fun _ hd => receiveCommand_agrees _ (hd.congr (by simp))) h
  | restart t stn role =>
    exact taken_agrees (f := fun d => receiveCommand (commandBytes .restart)
      { d with pins := { d.pins with stn := stn, role := role } })
      (fun _ hd => receiveCommand_agrees _ (hd.congr (by simp))) h
  | invalidCommand t bytes =>
    refine taken_agrees (f := fun d => if discardedCommand bytes then receiveCommand bytes d else d)
      (fun d hd => ?_) h
    split
    · exact receiveCommand_agrees _ hd
    · exact hd
  | serviceByteError t b bad =>
    refine taken_agrees (f := fun d => if erroneousByte bad b d then receiveByte bad b d else d) (fun d hd => ?_) h
    split
    · exact receiveByte_agrees _ _ hd
    · exact hd
  | gapDeadlineExpires t => exact taken_agrees (fun _ hd => hd.congr (by simp)) h
  | replyEnd t stn role camRdy => exact taken_agrees (fun _ => replyEnds_agrees stn role camRdy) h
  | serviceByteReceived t x =>
    refine taken_agrees (f := fun d => receiveByte false x.value (sampleWith x d))
      (fun d hd => receiveByte_agrees _ _ ?_) h
    unfold sampleWith
    split
    · exact hd.congr (by simp)
    · exact hd

end Sys2Proof.Machine

namespace Sys2Proof.Settled

open Sys2Proof.Machine

/-- Settles O58: every step keeps `Agrees`, by the case of the command at the front of the queue. -/
theorem blocksFollowStation : Obligations.BlocksFollowStation := by
  intro s s' hst hs hr hl hstep
  have h : Agrees s.dev := (agrees_iff _).2 ⟨hst, hs, hr, hl⟩
  refine (agrees_iff _).1 ?_
  unfold step at hstep
  split at hstep
  · rename_i c rest _
    obtain ⟨s1, e, h1⟩ := exec_agrees c (s := { s with pending := rest }) h
    cases e.symm.trans hstep
    exact h1
  · cases hstep
    exact h.congr (by simp)

end Sys2Proof.Settled

/-! ## Speed and height of a passage (R17, R18) -/

namespace Sys2Proof.Machine

/-! ### Rounding -/

theorem le_roundNat_iff {k n d : Nat} (hd : 0 < d) : k ≤ roundNat n d ↔ 2 * k * d ≤ 2 * n + d := by
  rw [roundNat, Nat.le_div_iff_mul_le (by omega), Nat.mul_left_comm k, Nat.mul_assoc]

/-- The rounded quotient is the whole number nearest to n / d, halves up. -/
theorem roundNat_bounds (n : Nat) {d : Nat} (hd : 0 < d) :
    2 * roundNat n d * d ≤ 2 * n + d ∧ 2 * n + d < 2 * (roundNat n d + 1) * d := by
  refine ⟨(le_roundNat_iff hd).1 le_rfl, ?_⟩
  by_contra h
  exact absurd ((le_roundNat_iff hd).2 (not_lt.1 h)) (by omega)

/-! ### The speed (R17) -/

theorem passageSpeed_at_once {b : Nat} {t1 t2 : Time} (h : (t2 - t1).toNat = 0) :
    passageSpeed b t1 t2 = (120000, true) := by simp [passageSpeed, h]

theorem passageSpeed_later {b : Nat} {t1 t2 : Time} (h : (t2 - t1).toNat ≠ 0) :
    passageSpeed b t1 t2 = if 120000 < roundNat (b * 1000000) (t2 - t1).toNat then (120000, true)
      else (roundNat (b * 1000000) (t2 - t1).toNat, false) := if_neg h

/-! ### The height band (R18) -/

theorem mem_heightUnion {heights : List Nat} {beams : Byte} {i : Nat} :
    i ∈ heightUnion heights beams ↔ i < 8 ∧ beams.getLsbD i = true ∧ heights.getD i 0 ≠ 0 := by
  simp [heightUnion]

/-- The union is listed from its lowest beam to its highest. -/
theorem heightUnion_ascends (heights : List Nat) (beams : Byte) :
    (heightUnion heights beams).Pairwise (· < ·) := List.pairwise_lt_range.filter _

/-- The least value of a function along a list, as the band forms it. -/
theorem foldl_min_spec (h : Nat → Nat) (i : Nat) (l : List Nat) :
    (∃ k ∈ i :: l, h k = l.foldl (fun m k => min m (h k)) (h i))
      ∧ ∀ k ∈ i :: l, l.foldl (fun m k => min m (h k)) (h i) ≤ h k := by
  have hm : ((i :: l).map h).min? = some (l.foldl (fun m k => min m (h k)) (h i)) := by
    rw [List.map_cons, List.min?_cons', List.foldl_map]
  obtain ⟨hmem, hle⟩ := List.min?_eq_some_iff.1 hm
  exact ⟨List.mem_map.1 hmem, fun k hk => hle _ (List.mem_map_of_mem hk)⟩

/-- The greatest value of a function along a list, as the band forms it. -/
theorem foldl_max_spec (h : Nat → Nat) (i : Nat) (l : List Nat) :
    (∃ k ∈ i :: l, h k = l.foldl (fun m k => max m (h k)) (h i))
      ∧ ∀ k ∈ i :: l, h k ≤ l.foldl (fun m k => max m (h k)) (h i) := by
  have hm : ((i :: l).map h).max? = some (l.foldl (fun m k => max m (h k)) (h i)) := by
    rw [List.map_cons, List.max?_cons', List.foldl_map]
  obtain ⟨hmem, hle⟩ := List.max?_eq_some_iff.1 hm
  exact ⟨List.mem_map.1 hmem, fun k hk => hle _ (List.mem_map_of_mem hk)⟩

/-- An ascending list runs from its head to its last element. -/
theorem ascending_bounds {i : Nat} {l : List Nat} (h : (i :: l).Pairwise (· < ·)) :
    l.getLastD i ∈ i :: l ∧ ∀ k ∈ i :: l, i ≤ k ∧ k ≤ l.getLastD i := by
  have hle : (i :: l).Pairwise (· ≤ ·) := h.imp Nat.le_of_lt
  rw [← List.getLast_eq_getLastD (List.cons_ne_nil i l)]
  refine ⟨List.getLast_mem _, fun k hk => ⟨?_, hle.rel_getLast hk⟩⟩
  rcases List.mem_cons.1 hk with rfl | hk
  · exact le_rfl
  · exact List.rel_of_pairwise_cons hle hk

end Sys2Proof.Machine

namespace Sys2Proof.Settled

open Sys2Proof.Machine

/-- Settles O18: the bounds of the rounded quotient, by whether any time passed. -/
theorem passageSpeed : Obligations.PassageSpeed := by
  intro b t1 t2 dt
  refine ⟨passageSpeed_at_once, fun hdt => ?_, fun hb _ hle => ?_⟩
  · obtain ⟨hlow, hhigh⟩ := roundNat_bounds (b * 1000000) (Nat.pos_of_ne_zero hdt)
    refine ⟨roundNat (b * 1000000) dt, hlow, hhigh, fun h => ?_, fun h => ?_⟩
    · rw [passageSpeed_later hdt, if_pos h]
    · rw [passageSpeed_later hdt, if_neg (Nat.not_lt.2 h)]
  · by_cases hdt : dt = 0
    · simp [passageSpeed_at_once hdt]
    · have hmin : 500 ≤ roundNat (b * 1000000) dt :=
        (le_roundNat_iff (Nat.pos_of_ne_zero hdt)).2 (by omega)
      rw [passageSpeed_later hdt]
      split
      · decide
      · exact ⟨hmin, by simp only; omega⟩

/-- Settles O19: by whether the union is empty; otherwise its head is the lowest beam and its last the highest. -/
theorem heightBand : Obligations.HeightBand := by
  intro heights beams masked inUnion
  have hmem : ∀ i, i ∈ heightUnion heights beams ↔ inUnion i := fun _ => mem_heightUnion
  cases hu : heightUnion heights beams with
  | nil =>
    refine ⟨fun _ => by simp [Machine.heightBand, hu], fun ⟨i, hi⟩ => ?_⟩
    simpa [hu] using (hmem i).2 hi
  | cons i rest =>
    rw [hu] at hmem
    refine ⟨fun h => absurd ((hmem i).1 (by simp)) (h i), fun _ => ?_⟩
    obtain ⟨⟨kl, hkl, hlow⟩, hle⟩ := foldl_min_spec (fun k => heights.getD k 0) i rest
    obtain ⟨⟨kh, hkh, hhigh⟩, hge⟩ := foldl_max_spec (fun k => heights.getD k 0) i rest
    obtain ⟨hlast, hbetween⟩ := ascending_bounds (hu ▸ heightUnion_ascends heights beams)
    refine ⟨_, _, i, rest.getLastD i, by simp only [Machine.heightBand, hu], ⟨kl, (hmem kl).1 hkl, hlow⟩,
      ⟨kh, (hmem kh).1 hkh, hhigh⟩, fun k hk => ⟨hle k ((hmem k).2 hk), hge k ((hmem k).2 hk)⟩, (hmem i).1 (by simp),
      (hmem _).1 hlast, fun k hk => hbetween k ((hmem k).2 hk), ?_⟩
    simp [Machine.heightBand, hu, and_assoc]

/-- Settles O60: the part right after reset is what POWER_ON leaves, so its blocks agree with its station; the bounds
and the indicator are read off. -/
theorem resetSatisfies : Obligations.ResetSatisfies := by
  have h : Agrees State.reset.dev := by
    have e : powerOnReset 1#5 .camera Device.reset = Device.reset := by decide
    have h := powerOnReset_agrees 1#5 .camera Device.reset
    rwa [e] at h
  obtain ⟨hst, hs, hr, hl⟩ := (agrees_iff _).1 h
  exact ⟨by decide, by decide, hst, hs, hr, hl, by decide, rfl⟩

end Sys2Proof.Settled

/-! ## Beams, breaks and the pair sequencer: one rule for each operation -/

namespace Sys2Proof.Machine

/-! ### Deadlines and the rest of the part -/

theorem due_of_reached {deadline : Option Time} {a now : Time} (h : deadline = some a) (ha : isAfter a now = false) :
    due deadline now = true := by simp [due, h, ha]

/-- A part with the same clock, pins, station, peers and neighbour claims differs in the other blocks alone. -/
theorem eq_with_blocks {d d' : Device}
    (h : d'.clock = d.clock ∧ d'.pins = d.pins ∧ d'.cfl = d.cfl ∧ d'.ptb = d.ptb ∧ d'.crs = d.crs) :
    d' = { d with ciu := d'.ciu, liu := d'.liu, fx := d'.fx, htk := d'.htk, cpl := d'.cpl, cdu := d'.cdu,
                  fdu := d'.fdu, rqs := d'.rqs } := by
  obtain ⟨h1, h2, h3, h4, h5⟩ := h
  rw [← h1, ← h2, ← h3, ← h4, ← h5]

theorem Evaluated.image {d : Device} {c : Fin 4} {pc : PairConfig} (h : Evaluated d c pc) :
    ∃ im, d.cfl.image = some im := by
  obtain ⟨-, hv⟩ := h
  unfold enabledPair at hv
  split at hv
  · exact ⟨_, ‹_›⟩
  · cases hv

@[simp] theorem enabledPair_setCurtain (c : Fin 4) (x : Curtain) (d : Device) (p : Fin 2) :
    enabledPair (setCurtain c x d) p = enabledPair d p := by simp [enabledPair]

@[simp] theorem enabledPair_raise (f : EventFlag) (d : Device) (p : Fin 2) :
    enabledPair (raise f d) p = enabledPair d p := by simp [enabledPair]

/-- A flag raised or not, as one update. -/
theorem raise_if (b : Bool) (f : EventFlag) (d : Device) :
    (if b then raise f d else d)
      = { d with rqs := { d.rqs with flags := if b then d.rqs.flags ||| flagBit f else d.rqs.flags } } := by
  cases b <;> rfl

theorem raise_setCurtain (f : EventFlag) (c : Fin 4) (x : Curtain) (d : Device) :
    raise f (setCurtain c x d) = setCurtain c x (raise f d) := rfl

/-! ### Beams -/

theorem withBeam_withBeam (cu : Curtain) (i : Fin 8) (b b' : Beam) :
    withBeam (withBeam cu i b) i b' = withBeam cu i b' := by simp [withBeam]

/-- Beams that count alike may stand for each other in a count. -/
theorem beamCount_withBeam_congr (f : Beam → Bool) (cu : Curtain) (i : Fin 8) {b b' : Beam} (h : f b = f b') :
    beamCount f (withBeam cu i b) = beamCount f (withBeam cu i b') := by
  have hb : (withBeam cu i b').beams.get i = b' := by simp [get_withBeam]
  rw [← beamCount_withBeam f (withBeam cu i b') i b (by rw [hb, h]), withBeam_withBeam]

/-- R5, R6: the timing of a beam leaves its level, its mask and its force values. -/
@[simp] theorem rawTiming_frame (now : Time) (stuck : Nat) (l : Bool) (b : Beam) :
    (rawTiming now stuck l b).raw = b.raw ∧ (rawTiming now stuck l b).masked = b.masked
      ∧ (rawTiming now stuck l b).forceMask = b.forceMask ∧ (rawTiming now stuck l b).forcePattern = b.forcePattern := by
  unfold rawTiming
  split <;> simp

theorem rawTiming_eq (now : Time) (stuck : Nat) (l : Bool) (b : Beam) :
    rawTiming now stuck l b = { b with
      stuckDeadline := if b.masked then b.stuckDeadline else if l then some (laterBy now stuck) else none,
      unmaskDeadline := if b.masked then (if l then none else some (laterBy now 1000000)) else b.unmaskDeadline } := by
  cases hm : b.masked <;> cases l <;> simp [rawTiming, hm]

/-- A level that is already there changes nothing. -/
theorem rawChange_same {c : Fin 4} {i : Fin 8} {l : Bool} {d : Device} (h : ((curtain d c).beams.get i).raw = l) :
    rawChange c i l d = d := by simp [rawChange, h]

/-- R2: an input that is not evaluated changes its level alone. -/
theorem rawChange_unevaluated {c : Fin 4} {i : Fin 8} {l : Bool} {d : Device}
    (h : ((curtain d c).beams.get i).raw = !l) (hn : stationWorks d = false ∨ enabledPair d (pairOf c) = none) :
    rawChange c i l d = setCurtain c (withBeam (curtain d c) i { (curtain d c).beams.get i with raw := l }) d := by
  have he : (stationWorks d && (enabledPair d (pairOf c)).isSome) = false := by rcases hn with e | e <;> simp [e]
  cases l <;> simp [rawChange, h, he, modifyBeam_eq]

/-- R5 to R8: a level that changes on a curtain whose dead flag stands right: its timing, then the sets of a break in
progress, then the break. -/
theorem rawChange_judged {c : Fin 4} {i : Fin 8} {l : Bool} {d : Device} {pc : PairConfig} {im : Image}
    (hv : Evaluated d c pc) (hi : d.cfl.image = some im) (hdead : (curtain d c).dead = false)
    (hu : pc.minBeams ≤ beamCount usable (curtain d c)) (hl : ((curtain d c).beams.get i).raw = !l) :
    rawChange c i l d = judgeBreak c pc (setCurtain c (setsJoined (withBeam (curtain d c) i
      (rawTiming d.clock (im.stuckLimit * 1000) l { (curtain d c).beams.get i with raw := l }))) d) := by
  rw [rawChange_evaluated hv hi hl, curtainChanged_setCurtain _ hv.2, judgeDead_settled]
  rw [beamCount_setsJoined, beamCount_withBeam _ _ _ _ (by simp [usable])]
  simpa [withBeam, hdead] using hu

/-- R8: below min beams a CLEAR curtain only judges its dead flag. -/
theorem curtainChanged_below {c : Fin 4} {d : Device} {pc : PairConfig} {x : Curtain}
    (hv : enabledPair d (pairOf c) = some pc) (hx : x.breakState = .clear)
    (hlow : beamCount interrupted x < pc.minBeams) :
    curtainChanged c (setCurtain c x d) = judgeDead c pc.minBeams (setCurtain c x d) := by
  rw [curtainChanged_setCurtain _ hv, setsJoined_clear hx, judgeBreak_clear (by simp [hx]), if_neg]
  simpa [beamCount] using hlow

/-! ### Reports -/

/-- R174, R175: a SIGHTING record offered to a queue that has a place. -/
theorem offerSighting_joins {r : SightingRecord} {d : Device} (h : d.rqs.records.length < 32) :
    offerSighting r d =
      let p := if r.direction = .approaching then bcdSucc d.rqs.passage else d.rqs.passage
      { d with rqs := { d.rqs with
          passage := p, records := d.rqs.records ++ [.sighting { r with passage := p }] } } := by
  simp [offerSighting, offerRecord, joinRecords, h]

theorem isCamera_of {d : Device} (h : d.cfl.role = some .camera) : isCamera d = true := by simp [isCamera, h]
theorem not_isCamera_of {d : Device} (h : d.cfl.role = some .approach) : isCamera d = false := by simp [isCamera, h]

/-! ### The pair sequencer -/

/-- R14: the orphan deadline in OUTER. -/
theorem orphanExpires_outer {p : Fin 2} {d : Device} (h : (sequencer d p).state = .outer) :
    orphanExpires p d = if (curtain d (innerOf p)).breakState = .pending then
        modifySequencer p (fun s => { s with orphanDeadline := none, expiryHeld := true }) d
      else modifySequencer p idled (orphanInHand p d) := by simp [orphanExpires, h]

/-- R16: the orphan deadline in DEPARTING. -/
theorem orphanExpires_departing {p : Fin 2} {d : Device} (h : (sequencer d p).state = .departing) :
    orphanExpires p d = if (curtain d (outerOf p)).breakState = .pending then
        modifySequencer p (fun s => { s with orphanDeadline := none, expiryHeld := true }) d
      else modifySequencer p idled d := by simp [orphanExpires, h]

/-- R22: the camera role makes no record of an orphan. -/
theorem orphanInHand_camera {p : Fin 2} {d : Device} (h : d.cfl.role = some .camera) : orphanInHand p d = d := by
  unfold orphanInHand
  split
  · simp [emitOrphan, isCamera_of h]
  · rfl

/-- R21: the approach role makes an ORPHAN record, which takes a place that is free. -/
theorem orphanInHand_approach {p : Fin 2} {d : Device} {t1 : Time} (h : d.cfl.role = some .approach)
    (ht : (sequencer d p).t1 = some t1) (hr : d.rqs.records.length < 32) :
    orphanInHand p d = { d with rqs := { d.rqs with records := d.rqs.records ++ [.sighting
      { passage := d.rqs.passage, pair := p, direction := .orphan, t1 := t1, t2v := none, band := none,
        clamped := false, partialHeight := false, forced := (sequencer d p).forcedSeen }] } } := by
  simp [orphanInHand, ht, emitOrphan, not_isCamera_of h, offerSighting_joins hr]

/-- R9: a break judged valid at its deadline. -/
theorem validationExpires_valid {c : Fin 4} {d : Device} {pc : PairConfig} {start : Time}
    (hdue : due (curtain d c).validationDeadline d.clock = true) (hstart : (curtain d c).breakStart = some start)
    (hv : enabledPair d (pairOf c) = some pc) :
    validationExpires c d =
      let d1 := setCurtain c { curtain d c with breakState := .broken, validationDeadline := none } d
      if isOuter c then outerBreak (pairOf c) pc start d1 else innerBreak (pairOf c) pc start d1 := by
  simp only [validationExpires, hdue, hstart, hv]

/-- Force masks are read from the beams alone. -/
theorem anyForced_setCurtain {c : Fin 4} {x : Curtain} {d : Device} (p : Fin 2) (h : x.beams = (curtain d c).beams) :
    anyForced (setCurtain c x d) p = anyForced d p := by
  have hb : ∀ k, (curtain (setCurtain c x d) k).beams = (curtain d k).beams := fun k => by
    by_cases hk : k = c
    · rw [hk, curtain_setCurtain_same, h]
    · rw [curtain_setCurtain_other c k x d hk]
  simp [anyForced, hb]

/-- R12: entry to OUTER or DEPARTING. -/
theorem enterSequence_eq (p : Fin 2) (pc : PairConfig) (st : SequencerState) (t1 : Time) (d : Device) :
    enterSequence p pc st t1 d = setSequencer p { sequencer d p with
      state := st, t1 := some t1, t2 := none, orphanDeadline := some (laterBy t1 (pc.b * 2000)), expiryHeld := false,
      pendingOuter := none, forcedSeen := anyForced d p } d := rfl

/-- R9: an ignored break reaches no sequencer that holds no expiry. -/
theorem breakIgnored_unheld {c : Fin 4} {d : Device} (h : (sequencer d (pairOf c)).expiryHeld = false) :
    breakIgnored c d = d := by simp [breakIgnored, h]

end Sys2Proof.Machine

namespace Sys2Proof.Settled

open Sys2Proof.Machine

/-- Settles O17: by the state of the sequencer and of the curtain that could still supply t2. -/
theorem orphanDeadline : Obligations.OrphanDeadline := by
  intro t p s d a t1 hd hq ha ht1 hrec q waited
  have hx : exec (.orphanDeadlineExpires t p) s = .next (settled s (orphanExpires p d)) := by
    have e := taken_found (fun d => if due (sequencer d p).orphanDeadline d.clock then orphanExpires p d else d) hd
    rwa [if_pos (due_of_reached hq ha)] at e
  rw [hx]
  refine ⟨fun hs hw => ?_, fun hs hw hrole => ?_, fun hs hw => ?_⟩
  · rcases hs with hs | hs
    · have hw' : (curtain d (innerOf p)).breakState = .pending := by simpa [waited, hs] using hw
      rw [orphanExpires_outer hs, if_pos hw']
      rfl
    · have hw' : (curtain d (outerOf p)).breakState = .pending := by simpa [waited, hs] using hw
      rw [orphanExpires_departing hs, if_pos hw']
      rfl
  · have hw' : (curtain d (innerOf p)).breakState ≠ .pending := by simpa [waited, hs] using hw
    rw [orphanExpires_outer hs, if_neg hw', orphanInHand_approach hrole ht1 hrec]
    rfl
  · rcases hs with ⟨hs, hrole⟩ | hs
    · have hw' : (curtain d (innerOf p)).breakState ≠ .pending := by simpa [waited, hs] using hw
      rw [orphanExpires_outer hs, if_neg hw', orphanInHand_camera hrole]
      rfl
    · have hw' : (curtain d (outerOf p)).breakState ≠ .pending := by simpa [waited, hs] using hw
      rw [orphanExpires_departing hs, if_neg hw']
      rfl

/-- Settles O16: the curtain becomes BROKEN, and the break is taken by the case of the sequencer and the curtain. -/
theorem validBreakMovesSequencer : Obligations.ValidBreakMovesSequencer := by
  intro t c s d pc a start hd hv hval ha hstart q after fresh
  generalize hd1 : setCurtain c { curtain d c with breakState := .broken, validationDeadline := none } d = d1
  have hx : exec (.validationDeadlineExpires t c) s = .next (settled s
      (if isOuter c then outerBreak (pairOf c) pc start d1 else innerBreak (pairOf c) pc start d1)) := by
    rw [← hd1, ← validationExpires_valid (due_of_reached hval ha) hstart hv]
    exact taken_found (validationExpires c) hd
  have hq1 : sequencer d1 (pairOf c) = q := by rw [← hd1]; rfl
  have hf1 : anyForced d1 (pairOf c) = anyForced d (pairOf c) := by rw [← hd1]; exact anyForced_setCurtain _ rfl
  have hafter : ∀ q', after q' = settled s (setSequencer (pairOf c) q' d1) := fun q' => by rw [← hd1]
  have hfresh : ∀ st, enterSequence (pairOf c) pc st start d1 = setSequencer (pairOf c) (fresh st) d1 := fun st => by
    rw [enterSequence_eq, hq1, hf1]
    rfl
  rw [hx]
  simp only [hafter]
  refine ⟨fun hs => ?_, fun hs ho => ?_, fun hs ho hp => ?_, fun hs ht ho => ?_, fun hs ht ho => ?_⟩
  · cases ho : isOuter c
    · simp [innerBreak, hq1, hs, hfresh]
    · simp [outerBreak, hq1, hs, hfresh]
  · simp [ho, innerBreak, hq1, hs, modifySequencer, secondBreak]
  · simp [ho, outerBreak, hq1, hs, hp, modifySequencer]
  · simp [ho, outerBreak, hq1, hs, ht, modifySequencer, secondBreak]
  · simp only [ho, innerBreak, hq1, hs, ht, modifySequencer]
    rfl

/-- Settles O15: the count stays below min beams, so the change of the beam only judges the dead flag. -/
theorem maskingTimes : Obligations.MaskingTimes := by
  intro t c i s d pc a hd hv hclear ha b after
  have judged : ∀ (b' : Beam) (f : EventFlag), beamCount interrupted (withBeam (curtain d c) i b') < pc.minBeams →
      curtainChanged c (raise f (setCurtain c (withBeam (curtain d c) i b') d)) = after b' f := by
    intro b' f hlow
    have hv' : enabledPair (raise f d) (pairOf c) = some pc := by simpa using hv.2
    rw [raise_setCurtain, curtainChanged_below (x := withBeam (curtain d c) i b') hv' hclear hlow, judgeDead_eq]
    simp only [curtain_setCurtain_same, setCurtain_setCurtain, raise_if]
    rfl
  refine ⟨fun hs hlow => ?_, fun hu hlow => ?_⟩
  · rw [← judged]
    · have e := taken_found (stuckExpires c i) hd
      rwa [stuckExpires, if_pos (due_of_reached hs ha)] at e
    · rwa [beamCount_withBeam_congr interrupted _ _ (b' := { b with masked := true }) (by simp [interrupted])]
  · rw [← judged]
    · have e := taken_found (unmaskExpires c i) hd
      rwa [unmaskExpires, if_pos (due_of_reached hu ha)] at e
    · rwa [beamCount_withBeam_congr interrupted _ _ (b' := { b with masked := false }) (by simp [interrupted])]

/-- Settles O11: by whether the level changes and the CIU evaluates the input; what follows the beam's timing leaves
every beam. -/
theorem rawLevelTimes : Obligations.RawLevelTimes := by
  intro t c i l s d hd b
  have hx : exec (.rawLevelChange t c i l) s = .next (settled s (rawChange c i l d)) := by
    have e : exec (.rawLevelChange t c i l) s = taken t (rawChange c i l) s := if_neg (by simp [hd.1])
    rw [e, taken_found _ hd]
  rw [hx]
  refine ⟨fun h => by rw [rawChange_same h], fun h hn => by rw [rawChange_unevaluated h hn], fun pc im hv hi h => ?_⟩
  generalize hcu : withBeam (curtain d c) i (rawTiming d.clock (im.stuckLimit * 1000) l { b with raw := l }) = cu
  have hr : rawChange c i l d = curtainChanged c (setCurtain c cu d) := by rw [← hcu]; exact rawChange_evaluated hv hi h
  rw [hr]
  have hbeams : (curtain (curtainChanged c (setCurtain c cu d)) c).beams = cu.beams := by simp
  have hother : ∀ k, k ≠ c → curtain (curtainChanged c (setCurtain c cu d)) k = curtain d k := fun k hk => by
    rw [curtainChanged_other _ hk, curtain_setCurtain_other _ _ _ _ hk]
  have hframe := eq_with_blocks (d := d) (d' := curtainChanged c (setCurtain c cu d)) (by simp)
  refine ⟨_, _, _, _, _, _, _, _, congrArg (fun x => Host.Outcome.next (settled s x)) hframe, ?_,
    fun k j hkj => ?_, hother⟩
  · change (curtain _ c).beams.get i = _
    rw [hbeams, ← hcu, get_withBeam, if_pos rfl, rawTiming_eq]
    rfl
  · change (curtain _ k).beams.get j = _
    by_cases hk : k = c
    · subst hk
      rw [hbeams, ← hcu, get_withBeam, if_neg fun hj => hkj ⟨rfl, hj⟩]
    · rw [hother k hk]

/-- Settles O12: the usable count stands, so only the break is judged. -/
theorem breakBegins : Obligations.BreakBegins := by
  intro t c i s d pc im hd hv hi hclear hdead hu hraw hmask hforce cu
  have hcu : withBeam (curtain d c) i
      (rawTiming d.clock (im.stuckLimit * 1000) true { (curtain d c).beams.get i with raw := true }) = cu := by
    rw [rawTiming_eq]
    simp [cu, hmask, laterBy]
  have hc : cu.breakState = .clear := hclear
  have hx : exec (.rawLevelChange t c i true) s = .next (settled s (judgeBreak c pc (setCurtain c cu d))) := by
    have e : exec (.rawLevelChange t c i true) s = taken t (rawChange c i true) s := if_neg (by simp [hd.1])
    rw [e, taken_found _ hd, rawChange_judged hv hi hdead hu hraw, hcu, setsJoined_clear hc]
  rw [hx, judgeBreak_clear (by simpa using hc)]
  simp only [curtain_setCurtain_same, setCurtain_setCurtain]
  refine ⟨fun hlow => by rw [if_neg (by omega)], fun hreach => ?_⟩
  rw [if_pos hreach]
  rfl

/-- Settles O13: the sets grow first; then a count below min beams ends the break and reaches no sequencer. -/
theorem pendingBreakIgnored : Obligations.PendingBreakIgnored := by
  intro t c i s d pc hd hv hpend hdead hu hheld hraw hmask hforce cu
  obtain ⟨im, hi⟩ := Evaluated.image hv
  have hcu : withBeam (curtain d c) i
      (rawTiming d.clock (im.stuckLimit * 1000) false { (curtain d c).beams.get i with raw := false }) = cu := by
    rw [rawTiming_eq]
    simp [cu, hmask]
  have hc : cu.breakState = .pending := hpend
  have hx : exec (.rawLevelChange t c i false) s
      = .next (settled s (judgeBreak c pc (setCurtain c (setsJoined cu) d))) := by
    have e : exec (.rawLevelChange t c i false) s = taken t (rawChange c i false) s := if_neg (by simp [hd.1])
    rw [e, taken_found _ hd, rawChange_judged hv hi hdead hu hraw, hcu]
  rw [hx, judgeBreak_pending (by simpa using hc)]
  simp only [curtain_setCurtain_same, setCurtain_setCurtain, beamCount_setsJoined]
  refine ⟨fun hlow => ?_, fun hreach => ?_⟩
  · rw [if_neg (by omega), breakIgnored_unheld (by simpa using hheld), setsJoined_active (by simp [hc])]
    rfl
  · rw [if_pos hreach, setsJoined_active (by simp [hc])]

end Sys2Proof.Settled

/-! ## Evaluation begins (R2) -/

namespace Sys2Proof.Machine

/-! ### Counts and sets formed from the beams -/

theorem beams_map_congr {f g : Beam → Bool} {v w : Vector Beam 8} (h : ∀ i, f (v.get i) = g (w.get i)) :
    v.toList.map f = w.toList.map g := by
  refine List.ext_getElem (by simp) fun i hi _ => ?_
  have hi8 : i < 8 := by simpa using hi
  simpa [Vector.get] using h ⟨i, hi8⟩

theorem beamCount_eq (f : Beam → Bool) (x : Curtain) : beamCount f x = (x.beams.toList.map f).countP id := by
  simp [beamCount, List.countP_map, ← List.countP_eq_length_filter]

theorem beamSet_eq (f : Beam → Bool) (x : Curtain) :
    beamSet f x = (x.beams.toList.map f).foldr (fun b (acc : Byte) => (acc <<< 1) ||| boolByte b) 0#8 := by
  rw [List.foldr_map]
  rfl

/-- Counts of two curtains agree when their beams do, one by one. -/
theorem beamCount_congr {f g : Beam → Bool} {x y : Curtain} (h : ∀ i, f (x.beams.get i) = g (y.beams.get i)) :
    beamCount f x = beamCount g y := by rw [beamCount_eq, beamCount_eq, beams_map_congr h]

theorem beamSet_congr {f g : Beam → Bool} {x y : Curtain} (h : ∀ i, f (x.beams.get i) = g (y.beams.get i)) :
    beamSet f x = beamSet g y := by rw [beamSet_eq, beamSet_eq, beams_map_congr h]

theorem beamCount_true (x : Curtain) : beamCount (fun _ => true) x = 8 := by simp [beamCount]

theorem beamSet_false (x : Curtain) : beamSet (fun _ => false) x = 0#8 := by
  have h : ∀ l : List Beam, l.foldr (fun _ (acc : Byte) => (acc <<< 1) ||| boolByte false) 0#8 = 0#8 := fun l => by
    induction l with
    | nil => rfl
    | cons _ _ ih =>
      rw [List.foldr_cons, ih]
      rfl
  exact h _

/-! ### One curtain -/

/-- R2: curtains of a disabled pair are left. -/
theorem evaluateCurtain_disabled {c : Fin 4} {d : Device} (h : enabledPair d (pairOf c) = none) :
    evaluateCurtain c d = d := by simp [evaluateCurtain, h]

/-- R2: what evaluation finds of a curtain whose beams hold no more than their levels: stuck timing of the interrupted
ones, no death while min beams is a count of beams, and a break where the count already reaches it. -/
theorem curtain_evaluateCurtain {c : Fin 4} {d : Device} {pc : PairConfig} (hv : enabledPair d (pairOf c) = some pc)
    (hm : pc.minBeams ≤ 8) (hr : curtain d c = Curtain.reset (curtain d c).beams)
    (hb : ∀ i, (curtain d c).beams.get i = Beam.reset ((curtain d c).beams.get i).raw) :
    let x : Curtain := { curtain d c with beams := mapVec (beginStuck d.clock (stuckMicros d)) (curtain d c).beams }
    (∀ i, x.beams.get i = { (curtain d c).beams.get i with
        stuckDeadline :=
          if ((curtain d c).beams.get i).raw then some (laterBy d.clock (stuckMicros d)) else none })
    ∧ beamSet interrupted x = beamSet (·.raw) (curtain d c) ∧ beamSet maskedUnforced x = 0#8
    ∧ curtain (evaluateCurtain c d) c =
        if pc.minBeams ≤ beamCount (·.raw) (curtain d c) then breakBegun d.clock pc.minBreak x else x := by
  intro x
  have hx : ∀ i, x.beams.get i = { (curtain d c).beams.get i with
      stuckDeadline :=
        if ((curtain d c).beams.get i).raw then some (laterBy d.clock (stuckMicros d)) else none } := fun i => by
    have hstuck : ((curtain d c).beams.get i).stuckDeadline = none := congrArg Beam.stuckDeadline (hb i)
    rw [mapVec_get, beginStuck]
    split
    · rfl
    · rw [← hstuck]
  have hf : ∀ i, (x.beams.get i).masked = false ∧ (x.beams.get i).forceMask = false
      ∧ (x.beams.get i).raw = ((curtain d c).beams.get i).raw := fun i => by
    rw [hx i]
    exact ⟨congrArg Beam.masked (hb i), congrArg Beam.forceMask (hb i), rfl⟩
  have hint : ∀ i, interrupted (x.beams.get i) = ((curtain d c).beams.get i).raw := fun i => by
    simp [interrupted, hf i]
  have hmask : ∀ i, maskedUnforced (x.beams.get i) = false := fun i => by simp [maskedUnforced, hf i]
  have huse : ∀ i, usable (x.beams.get i) = true := fun i => by simp [usable, hf i]
  have hcount : beamCount interrupted x = beamCount (·.raw) (curtain d c) := beamCount_congr hint
  have hclear : x.breakState = .clear := congrArg Curtain.breakState hr
  have hdead : x.dead = decide (beamCount usable x < pc.minBeams) := by
    rw [beamCount_congr (g := fun _ => true) (y := x) huse, beamCount_true, decide_eq_false (by omega)]
    exact congrArg Curtain.dead hr
  refine ⟨hx, beamSet_congr hint, (beamSet_congr (g := fun _ => false) (y := x) hmask).trans (beamSet_false x), ?_⟩
  have he : evaluateCurtain c d = curtainChanged c (setCurtain c x d) := if_pos (by simp [hv])
  rw [he, curtainChanged_setCurtain _ hv, setsJoined_clear hclear, judgeDead_settled _ hdead,
    judgeBreak_clear (by simpa using hclear), curtain_setCurtain_same, hcount]
  split <;> simp

/-! ### The whole CIU -/

theorem evaluateCurtain_pairs {c : Fin 4} {d : Device} (h : (curtain d c).breakState = .clear) :
    (evaluateCurtain c d).ciu.pairs = d.ciu.pairs := by
  unfold evaluateCurtain
  split
  · rw [(curtainChanged_clear (by simpa using h)).1]
    simp
  · rfl

/-- R2: the evaluation that begins on CLEAR curtains leaves the sequencers. -/
theorem startEvaluation_pairs {d : Device} (h : ∀ c, (curtain d c).breakState = .clear) :
    (startEvaluation d).ciu.pairs = d.ciu.pairs := by
  change (evaluateCurtain 3 (evaluateCurtain 2 (evaluateCurtain 1 (evaluateCurtain 0 d)))).ciu.pairs = d.ciu.pairs
  rw [evaluateCurtain_pairs, evaluateCurtain_pairs, evaluateCurtain_pairs, evaluateCurtain_pairs (h 0)]
  all_goals simp [evaluateCurtain_other, h]

/-- Each curtain is evaluated on its own. -/
theorem curtain_startEvaluation (d : Device) (c : Fin 4) :
    ∃ x : Device, x.clock = d.clock ∧ x.cfl = d.cfl ∧ curtain x c = curtain d c
      ∧ curtain (startEvaluation d) c = curtain (evaluateCurtain c x) c := by
  have he : startEvaluation d = evaluateCurtain 3 (evaluateCurtain 2 (evaluateCurtain 1 (evaluateCurtain 0 d))) := rfl
  rw [he]
  match c with
  | 0 => exact ⟨d, by simp [evaluateCurtain_other]⟩
  | 1 => exact ⟨evaluateCurtain 0 d, by simp [evaluateCurtain_other]⟩
  | 2 => exact ⟨evaluateCurtain 1 (evaluateCurtain 0 d), by simp [evaluateCurtain_other]⟩
  | 3 => exact ⟨evaluateCurtain 2 (evaluateCurtain 1 (evaluateCurtain 0 d)), by simp [evaluateCurtain_other]⟩

/-! ### A valid page -/

theorem clampNat_le {lo hi : Nat} (x : Nat) (h : lo ≤ hi) : clampNat lo hi x ≤ hi := by
  unfold clampNat
  split
  · exact h
  · split <;> omega

/-- R193: min beams is a count of beams. -/
theorem imageOf_minBeams (role : Role) (page : List Byte) (p : Fin 2) :
    (pairConfig (imageOf role page) p).minBeams ≤ 8 := by
  have h : ∀ x, clampNat 1 4 x ≤ 8 := fun x => (clampNat_le x (by omega)).trans (by omega)
  unfold pairConfig
  cases role <;> split <;> exact h _

theorem enterListening_ciu (im : Image) (d : Device) :
    ∃ x : Device, x.clock = d.clock ∧ x.ciu = d.ciu ∧ x.cfl.image = some im
      ∧ (enterListening im d).ciu = (startEvaluation x).ciu := by
  refine ⟨{ d with cfl := { d.cfl with
    station := .listening, loadStep := .done, image := some im,
    listeningDeadline := some (laterBy d.clock 2000000) } }, rfl, rfl, rfl, ?_⟩
  simp only [enterListening]
  split <;> simp

theorem usePage_ciu (used : PageUsed) (page : List Byte) (d : Device) :
    ∃ x : Device, x.clock = d.clock ∧ x.ciu = d.ciu
      ∧ x.cfl.image = some (imageOf (d.cfl.role.getD .camera) page)
      ∧ (usePage used page d).ciu = (startEvaluation x).ciu := by
  simp only [usePage]
  split
  · exact enterListening_ciu _ (raise .configClamped { d with cfl := { d.cfl with pageUsed := used } })
  · exact enterListening_ciu _ { d with cfl := { d.cfl with pageUsed := used } }

/-- R191: a valid page read to its end is used. -/
theorem pageComplete_valid {page : List Byte} {d : Device} {n : Nat} {e : Time} (camRdy : Bool)
    (hread : d.cfl.reading = some (n, e)) (he : isAfter e d.clock = false) (hp : pageValid page = true)
    (hstep : d.cfl.loadStep = .readStation ∨ d.cfl.loadStep = .readCommon) :
    ∃ used, pageComplete page camRdy d
      = usePage used page
          { d with pins := { d.pins with camRdy := camRdy }, cfl := { d.cfl with reading := none } } := by
  have hdue : due (d.cfl.reading.map (·.2)) d.clock = true := due_of_reached (by simp [hread]) he
  unfold pageComplete
  rw [if_neg (by simp [hdue])]
  rcases hstep with hs | hs
  · exact ⟨.station, by simp only [hs, hp, if_true]⟩
  · exact ⟨.common, by simp only [hs, hp, if_true]⟩

/-- R191, R195: the CIU a valid page leaves is that of the evaluation that begins then. -/
theorem pageComplete_ciu {page : List Byte} {d : Device} {n : Nat} {e : Time} {role : Role} (camRdy : Bool)
    (hrole : d.cfl.role = some role) (hread : d.cfl.reading = some (n, e)) (he : isAfter e d.clock = false)
    (hp : pageValid page = true) (hstep : d.cfl.loadStep = .readStation ∨ d.cfl.loadStep = .readCommon) :
    ∃ x : Device, x.clock = d.clock ∧ x.ciu = d.ciu ∧ x.cfl.image = some (imageOf role page)
      ∧ (pageComplete page camRdy d).ciu = (startEvaluation x).ciu := by
  obtain ⟨used, hused⟩ := pageComplete_valid camRdy hread he hp hstep
  obtain ⟨x, hclock, hciu, himage, hx⟩ := usePage_ciu used page
    { d with pins := { d.pins with camRdy := camRdy }, cfl := { d.cfl with reading := none } }
  exact ⟨x, hclock, hciu, by rw [himage, hrole]; rfl, by rw [hused, hx]⟩

end Sys2Proof.Machine

namespace Sys2Proof.Settled

open Sys2Proof.Machine

/-- Settles O8: the evaluation of reset curtains, one by one. -/
theorem evaluationBegins : Obligations.EvaluationBegins := by
  intro t page camRdy s d n e role hd hst hreset hload hrole hread he hp hstep im
  obtain ⟨hciu, -⟩ := hreset (by simp [stationWorks, hload])
  obtain ⟨hpairs, hcurtains⟩ := (eq_resetCiu_iff _).1 hciu
  obtain ⟨x, hxclock, hxciu, hximage, hx⟩ := pageComplete_ciu camRdy hrole hread he hp hstep
  have hxcurtain : ∀ c, curtain x c = curtain d c := fun c => congrArg (fun y : Ciu => y.curtains.get c) hxciu
  have hclear : ∀ c, (curtain x c).breakState = .clear := fun c => by
    rw [hxcurtain]
    exact congrArg Curtain.breakState (hcurtains c).1
  refine ⟨_, taken_found (pageComplete page camRdy) hd, ?_, fun c => ?_⟩
  · simp only [settled_dev, refreshIndicator_frame, hx]
    rw [startEvaluation_pairs hclear, hxciu]
  · intro pc was now
    obtain ⟨y, hyclock, hycfl, hycurtain, hy⟩ := curtain_startEvaluation x c
    have hywas : curtain y c = was := hycurtain.trans (hxcurtain c)
    have hnow : now = curtain (evaluateCurtain c y) c := by
      rw [← hy]
      simp only [now, settled_dev, curtain, refreshIndicator_frame, hx]
    have hpair : enabledPair y (pairOf c) = if pc.enabled then some pc else none := by
      simp only [enabledPair, hycfl, hximage]
      rfl
    have hclock : y.clock = d.clock := hyclock.trans hxclock
    have hstuck : stuckMicros y = im.stuckLimit * 1000 := by simp only [stuckMicros, hycfl, hximage]; rfl
    refine ⟨fun hoff => ?_, fun hon => ?_⟩
    · rw [hnow, evaluateCurtain_disabled (by simp [hpair, hoff]), hywas]
    · have hr : was = Curtain.reset was.beams := (hcurtains c).1
      have hb : ∀ i, was.beams.get i = Beam.reset (was.beams.get i).raw := (hcurtains c).2
      obtain ⟨hbeam, hset, hmasked, heval⟩ := curtain_evaluateCurtain (c := c) (d := y) (pc := pc)
        (by simp [hpair, hon]) (imageOf_minBeams role page _) (by rwa [hywas]) (by rwa [hywas])
      rw [hywas, hclock, hstuck] at hbeam hset hmasked heval
      rw [← hnow] at heval
      clear_value was now
      rw [heval]
      have hdead : was.dead = false := congrArg Curtain.dead hr
      split
      · rename_i hreach
        exact ⟨hbeam, hdead, fun h => absurd hreach (by omega), fun _ => ⟨rfl, rfl, rfl, hset, hmasked⟩⟩
      · rename_i hbelow
        exact ⟨hbeam, hdead, fun _ => ⟨congrArg Curtain.breakState hr, congrArg Curtain.breakStart hr⟩,
          fun h => absurd h hbelow⟩

end Sys2Proof.Settled

/-! ## A service command received whole, and FORCE_BEAMS (R7, R178 to R180, R185) -/

namespace Sys2Proof.Machine

/-! ### The bytes of a command -/

theorem xorBytes_append (l : List Byte) (b : Byte) : xorBytes (l ++ [b]) = xorBytes l ^^^ b := by simp [xorBytes]

/-- R201: the check byte makes the exclusive OR of every byte 0. -/
theorem xorBytes_withCheck (l : List Byte) : xorBytes (withCheck l) = 0#8 := by
  rw [withCheck, xorBytes_append, BitVec.xor_self]

/-- R179: the bytes of FORCE_BEAMS are judged to be that command. -/
theorem judgeCommand_forceBeams (c : Fin 4) (mask pattern : Byte) :
    judgeCommand (commandBytes (.forceBeams c mask pattern)) = some (.forceBeams c mask pattern) := by
  have hc : (byteOf c.val).toNat = c.val := by simp [byteOf]; omega
  rw [judgeCommand, if_pos (by exact xorBytes_withCheck _)]
  simp [commandBytes, withCheck, commandOf, hc]

/-! ### A command received from its first byte to its last -/

/-- R178: each byte but the last joins the command in hand; the last one has the command judged. -/
theorem receive_rest {first : Byte} {rest : List Byte} (hr : rest ≠ []) :
    ∀ {pre : List Byte} {d : Device}, ((first :: pre) ++ rest).length = commandLength first →
      forEach rest (receiveByte false) (receiverTo .receiving (first :: pre) d)
        = judgeInHand ((first :: pre) ++ rest) (receiverIdle d) := by
  induction rest with
  | nil => exact absurd rfl hr
  | cons b rest ih =>
    intro pre d hl
    cases rest with
    | nil =>
      have hb : receiveByte false b (receiverTo .receiving (first :: pre) d)
          = judgeInHand ((first :: pre) ++ [b]) (receiverIdle d) := by
        simp [receiveByte, receiverTo, receiverIdle] at hl ⊢
        omega
      exact hb
    | cons b' rest =>
      have hb : receiveByte false b (receiverTo .receiving (first :: pre) d)
          = receiverTo .receiving (first :: (pre ++ [b])) d := by
        simp [receiveByte, receiverTo] at hl ⊢
        omega
      have := ih (by simp) (pre := pre ++ [b]) (d := d) (by simpa using hl)
      rw [← hb] at this
      simpa [forEach] using this

/-- R178: a command received whole by an idle receiver. -/
theorem receiveCommand_idle {first : Byte} {rest : List Byte} {d : Device} (hd : d.rqs.receiver = .idle)
    (hr : rest ≠ []) (hl : (first :: rest).length = commandLength first) :
    receiveCommand (first :: rest) d = judgeInHand (first :: rest) (receiverIdle d) := by
  have hne : commandLength first ≠ 0 := by simp [← hl]
  have hb : receiveByte false first d = receiverTo .receiving [first] d := by simp [receiveByte, hd, hne]
  have := receive_rest hr (pre := []) (d := d) hl
  rw [← hb] at this
  simpa [receiveCommand, missingBytes, hd, forEach] using this

/-- R180, R185: FORCE_BEAMS completed on an idle port that sends no reply. -/
theorem receiveCommand_forceBeams {c : Fin 4} {mask pattern : Byte} {d : Device} (hd : d.rqs.receiver = .idle)
    (hreply : d.rqs.reply = none) :
    receiveCommand (commandBytes (.forceBeams c mask pattern)) d = takeForce c mask pattern (receiverIdle d) := by
  have hb : commandBytes (.forceBeams c mask pattern)
      = 0x55#8 :: [byteOf c.val, mask, pattern, xorBytes [0x55#8, byteOf c.val, mask, pattern]] := rfl
  rw [hb, receiveCommand_idle hd (by simp) (by simp [commandLength]), ← hb, judgeInHand, judgeCommand_forceBeams]
  simp [completeCommand, receiverIdle, hreply, takeCommand]

/-! ### What a change of a curtain leaves of the port -/

/-- The service receiver and the command that waits. -/
abbrev SamePort (d' d : Device) : Prop := d'.rqs.receiver = d.rqs.receiver ∧ d'.rqs.held = d.rqs.held

@[simp] theorem joinRecords_port (r : Record) (d : Device) : SamePort (joinRecords r d) d := by
  unfold joinRecords
  split <;> simp [SamePort]

@[simp] theorem offerRecord_port (advance : Bool) (make : BitVec 24 → Record) (d : Device) :
    SamePort (offerRecord advance make d) d := by
  simp [SamePort, offerRecord]

@[simp] theorem offerCapture_port (r : CaptureRecord) (d : Device) : SamePort (offerCapture r d) d := by
  simp [SamePort, offerCapture]

@[simp] theorem offerSighting_port (r : SightingRecord) (d : Device) : SamePort (offerSighting r d) d := by
  simp [SamePort, offerSighting]

@[simp] theorem closeTrack_port (outcome : TrackOutcome) (reason : Reason) (id : Byte) (d : Device) :
    SamePort (closeTrack outcome reason id d) d := by
  unfold closeTrack
  (repeat' split) <;> simp [SamePort]

@[simp] theorem armTrack_port (id : Byte) (d : Device) : SamePort (armTrack id d) d := by
  simp only [armTrack]
  (repeat' split) <;> simp [SamePort]

@[simp] theorem fixArmPoint_port (id : Byte) (d : Device) : SamePort (fixArmPoint id d) d := by
  unfold fixArmPoint
  (repeat' split) <;> simp [SamePort]

@[simp] theorem resolveOnce_port (id : Byte) (d : Device) : SamePort (resolveOnce id d).1 d := by
  unfold resolveOnce
  (repeat' split) <;> simp [SamePort]

@[simp] theorem resolveTrack_port (id : Byte) (d : Device) : SamePort (resolveTrack id d) d := by
  unfold resolveTrack
  simp only []
  split <;> simp [SamePort]

@[simp] theorem planTrack_port (id : Byte) (d : Device) : SamePort (planTrack id d) d := by
  unfold planTrack
  split <;> simp [SamePort]

@[simp] theorem enterHorizon_port (id : Byte) (d : Device) : SamePort (enterHorizon id d) d := by
  unfold enterHorizon
  (repeat' split) <;> simp [SamePort]

@[simp] theorem repredict_port (id : Byte) (d : Device) : SamePort (repredict id d) d := by
  unfold repredict
  (repeat' split) <;> simp [SamePort]

@[simp] theorem createTrack_port (im : Image) (tr : Track) (d : Device) : SamePort (createTrack im tr d) d := by
  simp [SamePort, createTrack]

@[simp] theorem newTrack_port (side : Side) (sightings : List Sighting) (verify : Option VerifyEntry) (d : Device) :
    SamePort (newTrack side sightings verify d) d := by
  simp only [newTrack]
  (repeat' split) <;> simp [SamePort]

@[simp] theorem takeVerify_port (track : Nat) (side : Side) (e : VerifyEntry) (d : Device) :
    SamePort (takeVerify track side e d) d := by
  unfold takeVerify
  (repeat' split) <;> simp [SamePort]

@[simp] theorem emitApproaching_port (p : Fin 2) (pc : PairConfig) (t1 t2 : Time) (v : Nat × Bool)
    (band : Option (Nat × Nat) × Bool) (seq : Byte) (forced : Bool) (d : Device) :
    SamePort (emitApproaching p pc t1 t2 v band seq forced d) d := by
  unfold emitApproaching
  split <;> simp [SamePort]

@[simp] theorem emitDeparting_port (p : Fin 2) (t1 t2 : Time) (v : Nat × Bool) (forced : Bool) (d : Device) :
    SamePort (emitDeparting p t1 t2 v forced d) d := by
  unfold emitDeparting
  split <;> simp [SamePort]

@[simp] theorem emitOrphan_port (p : Fin 2) (t1 : Time) (forced : Bool) (d : Device) :
    SamePort (emitOrphan p t1 forced d) d := by
  unfold emitOrphan
  split <;> simp [SamePort]

@[simp] theorem orphanInHand_port (p : Fin 2) (d : Device) : SamePort (orphanInHand p d) d := by
  unfold orphanInHand
  split <;> simp [SamePort]

@[simp] theorem orphanExpires_port (p : Fin 2) (d : Device) : SamePort (orphanExpires p d) d := by
  unfold orphanExpires
  (repeat' split) <;> simp [SamePort]

@[simp] theorem outerEnd_port (p : Fin 2) (pc : PairConfig) (d : Device) : SamePort (outerEnd p pc d) d := by
  unfold outerEnd
  simp only []
  split <;> simp [SamePort]

@[simp] theorem afterPassage_port (p : Fin 2) (pc : PairConfig) (pendingOuter : Option Time) (d : Device) :
    SamePort (afterPassage p pc pendingOuter d) d := by
  simp only [afterPassage]
  (repeat' split) <;> simp [SamePort]

@[simp] theorem innerEnd_port (p : Fin 2) (pc : PairConfig) (beams masked : Byte) (d : Device) :
    SamePort (innerEnd p pc beams masked d) d := by
  unfold innerEnd
  simp only []
  split <;> simp [SamePort]

@[simp] theorem breakIgnored_port (c : Fin 4) (d : Device) : SamePort (breakIgnored c d) d := by
  simp only [breakIgnored]
  (repeat' split) <;> simp [SamePort]

@[simp] theorem judgeDead_port (c : Fin 4) (minBeams : Nat) (d : Device) : SamePort (judgeDead c minBeams d) d := by
  unfold judgeDead
  simp only []
  split <;> simp [SamePort]

@[simp] theorem judgeBreak_port (c : Fin 4) (pc : PairConfig) (d : Device) : SamePort (judgeBreak c pc d) d := by
  simp only [judgeBreak]
  (repeat' split) <;> simp [SamePort]

@[simp] theorem curtainChanged_port (c : Fin 4) (d : Device) : SamePort (curtainChanged c d) d := by
  unfold curtainChanged
  split <;> simp [SamePort]

@[simp] theorem forceCurtain_port (c : Fin 4) (mask pattern : Byte) (d : Device) :
    SamePort (forceCurtain c mask pattern d) d := by
  unfold forceCurtain
  simp only []
  split <;> simp [SamePort]

/-! ### FORCE_BEAMS -/

theorem forceCurtain_eq (c : Fin 4) (mask pattern : Byte) (d : Device) :
    ∃ d1 : Device, forceCurtain c mask pattern d = curtainChanged c d1
      ∧ d1.ciu.curtains = (setCurtain c (forced mask pattern (curtain d c)) d).ciu.curtains := by
  simp only [forceCurtain]
  split
  · exact ⟨_, rfl, rfl⟩
  · exact ⟨_, rfl, rfl⟩

theorem forceCurtain_other {c k : Fin 4} (mask pattern : Byte) (d : Device) (h : k ≠ c) :
    curtain (forceCurtain c mask pattern d) k = curtain d k := by
  obtain ⟨d1, he, hd1⟩ := forceCurtain_eq c mask pattern d
  have e : curtain d1 k = curtain (setCurtain c (forced mask pattern (curtain d c)) d) k := congrArg (·.get k) hd1
  rw [he, curtainChanged_other _ h, e, curtain_setCurtain_other _ _ _ _ h]

/-- R7: the force values are replaced, and a beam keeps its level, its mask and its deadlines. -/
theorem forceCurtain_beams (c : Fin 4) (mask pattern : Byte) (d : Device) (i : Fin 8) :
    (curtain (forceCurtain c mask pattern d) c).beams.get i = { (curtain d c).beams.get i with
      forceMask := mask.getLsbD i.val, forcePattern := pattern.getLsbD i.val } := by
  obtain ⟨d1, he, hd1⟩ := forceCurtain_eq c mask pattern d
  have e : curtain d1 c = curtain (setCurtain c (forced mask pattern (curtain d c)) d) c := congrArg (·.get c) hd1
  rw [he, curtainChanged_beams, e, curtain_setCurtain_same]
  change (Vector.ofFn _)[i.val] = _
  simp

theorem setSequencer_self (p : Fin 2) (d : Device) : setSequencer p (sequencer d p) d = d := by
  have e : d.ciu.pairs.set p.val (d.ciu.pairs.get p) p.isLt = d.ciu.pairs := Vector.set_getElem_self ..
  simp only [setSequencer, sequencer, e]

/-- R2: on a disabled pair no counts are formed; what is left is forced seen, in a passage (R20). -/
theorem forceCurtain_disabled {c : Fin 4} (mask pattern : Byte) {d : Device} (h : enabledPair d (pairOf c) = none) :
    ∃ q, forceCurtain c mask pattern d
        = setSequencer (pairOf c) q (setCurtain c (forced mask pattern (curtain d c)) d)
      ∧ ((sequencer d (pairOf c)).state = .idle → q = sequencer d (pairOf c)) := by
  have left : ∀ x : Device, x.cfl = d.cfl → curtainChanged c x = x := fun x hx => by
    have hn : enabledPair x (pairOf c) = none := by simpa [enabledPair, hx] using h
    simp [curtainChanged, hn]
  simp only [forceCurtain]
  split
  · rename_i hseen
    refine ⟨_, left _ rfl, fun hidle => ?_⟩
    have : (sequencer d (pairOf c)).state ≠ .idle := by simpa using (Bool.and_eq_true_iff.1 hseen).1
    exact absurd hidle this
  · refine ⟨sequencer d (pairOf c), ?_, fun _ => rfl⟩
    rw [left _ (by simp)]
    exact (setSequencer_self (pairOf c) (setCurtain c (forced mask pattern (curtain d c)) d)).symm

end Sys2Proof.Machine

namespace Sys2Proof.Settled

open Sys2Proof.Machine

/-- Settles O52: the command is received whole and taken; a disabled pair forms no counts. -/
theorem forceBeamsTaken : Obligations.ForceBeamsTaken := by
  intro t c mask pattern s d hd hidle hreply
  have hx : exec (.forceBeams t c mask pattern) s = .next (settled s (takeForce c mask pattern (receiverIdle d))) := by
    rw [← receiveCommand_forceBeams hidle hreply]
    exact taken_found (receiveCommand (commandBytes (.forceBeams c mask pattern))) hd
  rw [hx]
  refine ⟨fun hoff => ?_, fun hon => ?_⟩
  · have hoff' : stationWorks (receiverIdle d) = false := hoff
    rw [takeForce, hoff']
    rfl
  · have hon' : stationWorks (receiverIdle d) = true := hon
    have ht : takeForce c mask pattern (receiverIdle d)
        = sendReply 0x55#8 [0#8, boolByte (curtain (forceCurtain c mask pattern (receiverIdle d)) c).dead]
            (forceCurtain c mask pattern (receiverIdle d)) := by rw [takeForce, if_pos hon']
    rw [ht]
    have hbeams := forceCurtain_beams c mask pattern (receiverIdle d)
    have hother := fun k (hk : k ≠ c) => forceCurtain_other mask pattern (receiverIdle d) hk
    have hdisabled := fun h : enabledPair d (pairOf c) = none =>
      forceCurtain_disabled mask pattern (d := receiverIdle d) h
    have hport := forceCurtain_port c mask pattern (receiverIdle d)
    have hframe := forceCurtain_frame c mask pattern (receiverIdle d)
    generalize forceCurtain c mask pattern (receiverIdle d) = f at *
    have hblocks := eq_with_blocks (d := d) (d' := sendReply 0x55#8 [0#8, boolByte (curtain f c).dead] f)
      (by simpa using hframe)
    refine ⟨_, _, _, _, _, _, _, _, congrArg (fun x => Host.Outcome.next (settled s x)) hblocks, hbeams, hother, rfl,
      hport.1, hport.2, fun h => ?_⟩
    obtain ⟨q, rfl, hq⟩ := hdisabled h
    refine ⟨rfl, rfl, rfl, rfl, rfl, rfl, rfl, rfl, rfl, ?_, fun hs => ?_⟩
    · change curtain (setCurtain c (forced mask pattern (curtain d c)) d) c
        = { curtain d c with beams := (curtain (setCurtain c (forced mask pattern (curtain d c)) d) c).beams }
      rw [curtain_setCurtain_same]
      rfl
    · rw [hq hs]
      exact congrArg (·.ciu.pairs) (setSequencer_self (pairOf c) d)

end Sys2Proof.Settled

/-! ## The end of a passage (R10, R15, R16, R19, R21, R22, R94 to R96, R102) -/

namespace Sys2Proof.Machine

/-! ### Requests and reports -/

/-- R21, R49: what a SIGHTING request leaves of the queue and the line unit: outside RUNNING it is refused, in RUNNING
it joins a queue that has a place. -/
def SightingRequested (contents : SightingContents) (d : Device) (fx : Fx) (liu : Liu) : Prop :=
  (d.cfl.station ≠ .running → fx = d.fx ∧ liu = d.liu)
  ∧ (d.cfl.station = .running → d.fx.queue.length < 8 →
      fx = { d.fx with
        nextOrder := d.fx.nextOrder + 1,
        queue := joinByClass
          { order := d.fx.nextOrder, onLine := false, revision := none, withdrawn := false, out := .sighting contents }
          d.fx.queue })

theorem requestSighting_parts (contents : SightingContents) (d : Device) :
    ∃ (fx : Fx) (liu : Liu), requestSighting contents d = { d with fx := fx, liu := liu }
      ∧ SightingRequested contents d fx liu := by
  refine ⟨(requestSighting contents d).fx, (requestSighting contents d).liu, ?_, fun hs => ?_, fun hs hq => ?_⟩
  · have hframe := requestSighting_frame contents d
    generalize requestSighting contents d = d' at hframe ⊢
    obtain ⟨h1, h2, h3, h4, h5, h6, h7, h8, h9, h10, h11⟩ := hframe
    rw [← h1, ← h2, ← h3, ← h4, ← h5, ← h6, ← h7, ← h8, ← h9, ← h10, ← h11]
  · rw [requestSighting_refused contents hs]
    exact ⟨rfl, rfl⟩
  · simp [requestSighting, hs, joinQueue, hq]

/-- R21: the approach role offers the APPROACHING record after the request. -/
theorem emitApproaching_approach {d : Device} (hrole : d.cfl.role = some .approach) (hr : d.rqs.records.length < 32)
    (p : Fin 2) (pc : PairConfig) (t1 t2 : Time) (v : Nat × Bool) (band : Option (Nat × Nat) × Bool) (seq : Byte)
    (forced : Bool) :
    emitApproaching p pc t1 t2 v band seq forced d =
      { requestSighting { pair := p, track := pc.track, seq := seq, v := v.1, band := band.1, clamped := v.2,
                          partialHeight := band.2, forced := forced, t2 := t2 } d with
        rqs := { d.rqs with
          passage := bcdSucc d.rqs.passage,
          records := d.rqs.records ++ [.sighting
            { passage := bcdSucc d.rqs.passage, pair := p, direction := .approaching, t1 := t1, t2v := some (t2, v.1),
              band := band.1, clamped := v.2, partialHeight := band.2, forced := forced }] } } := by
  have hr' : ∀ contents, (requestSighting contents d).rqs.records.length < 32 := fun contents => by simpa using hr
  simp only [emitApproaching, not_isCamera_of hrole, offerSighting_joins (hr' _)]
  simp

/-- R22, log 32: the camera role takes the verify event before the request. -/
theorem emitApproaching_camera {d : Device} (hrole : d.cfl.role = some .camera) (p : Fin 2) (pc : PairConfig)
    (t1 t2 : Time) (v : Nat × Bool) (band : Option (Nat × Nat) × Bool) (seq : Byte) (forced : Bool) :
    emitApproaching p pc t1 t2 v band seq forced d =
      requestSighting { pair := p, track := pc.track, seq := seq, v := v.1, band := band.1, clamped := v.2,
                        partialHeight := band.2, forced := forced, t2 := t2 }
        (takeVerify pc.track pc.side
          { d := pc.d, t2 := t2, v := v.1, band := band.1, partialHeight := band.2, forced := forced } d) := by
  simp [emitApproaching, isCamera_of hrole]

/-- R21: the approach role makes a DEPARTING record with the number held. -/
theorem emitDeparting_approach {d : Device} (hrole : d.cfl.role = some .approach) (hr : d.rqs.records.length < 32)
    (p : Fin 2) (t1 t2 : Time) (v : Nat × Bool) (forced : Bool) :
    emitDeparting p t1 t2 v forced d = { d with rqs := { d.rqs with
      records := d.rqs.records ++ [.sighting
        { passage := d.rqs.passage, pair := p, direction := .departing, t1 := t1, t2v := some (t2, v.1), band := none,
          clamped := v.2, partialHeight := false, forced := forced }] } } := by
  simp [emitDeparting, not_isCamera_of hrole, offerSighting_joins hr]

theorem emitDeparting_camera {d : Device} (hrole : d.cfl.role = some .camera) (p : Fin 2) (t1 t2 : Time)
    (v : Nat × Bool) (forced : Bool) : emitDeparting p t1 t2 v forced d = d := by
  simp [emitDeparting, isCamera_of hrole]

/-! ### The end of a break -/

/-- R16: an outer break end in DEPARTING with t2 present. -/
theorem outerEnd_completes {p : Fin 2} {pc : PairConfig} {d : Device} {t1 t2 : Time}
    (hs : (sequencer d p).state = .departing) (h1 : (sequencer d p).t1 = some t1) (h2 : (sequencer d p).t2 = some t2) :
    outerEnd p pc d = modifySequencer p withPassageGone
      (emitDeparting p t1 t2 (passageSpeed pc.b t1 t2) (sequencer d p).forcedSeen d) := by
  simp only [outerEnd, hs, h1, h2]
  rfl

theorem setSequencer_setSequencer (p : Fin 2) (x y : Sequencer) (d : Device) :
    setSequencer p x (setSequencer p y d) = setSequencer p x d := by simp [setSequencer]

/-- R15, R19: an inner break end in INNER with no pending outer time. -/
theorem innerEnd_completes {p : Fin 2} {pc : PairConfig} {beams masked : Byte} {d : Device} {t1 t2 : Time}
    (hs : (sequencer d p).state = .inner) (h1 : (sequencer d p).t1 = some t1) (h2 : (sequencer d p).t2 = some t2)
    (hp : (sequencer d p).pendingOuter = none) :
    innerEnd p pc beams masked d =
      setSequencer p (withPassageGone { sequencer d p with approachSeq := (sequencer d p).approachSeq + 1#8 })
        (emitApproaching p pc t1 t2 (passageSpeed pc.b t1 t2) (heightBand pc.heights beams masked)
          (sequencer d p).approachSeq (sequencer d p).forcedSeen d) := by
  have hseq : ∀ x : Device, x.ciu = d.ciu → sequencer x p = sequencer d p := fun x hx =>
    congrArg (fun y : Ciu => y.pairs.get p) hx
  simp only [innerEnd, hs, h1, h2, hp, afterPassage, modifySequencer, sequencer_setSequencer_same,
    setSequencer_setSequencer]
  rw [hseq _ (by simp)]
  rfl

/-- R10: the raw level that ends a break of a BROKEN curtain whose dead flag stands right. -/
theorem rawChange_endsBreak {c : Fin 4} {i : Fin 8} {d : Device} {pc : PairConfig} (hv : Evaluated d c pc)
    (hbroken : (curtain d c).breakState = .broken) (hdead : (curtain d c).dead = false)
    (hu : pc.minBeams ≤ beamCount usable (curtain d c)) (hraw : ((curtain d c).beams.get i).raw = true)
    (hmask : ((curtain d c).beams.get i).masked = false) :
    let cu := withBeam (curtain d c) i { (curtain d c).beams.get i with raw := false, stuckDeadline := none }
    let d1 := setCurtain c (withBreakGone cu) d
    beamCount interrupted cu < pc.minBeams →
    rawChange c i false d = if isOuter c then outerEnd (pairOf c) pc d1
      else innerEnd (pairOf c) pc (cu.breakBeams ||| beamSet interrupted cu)
        (cu.breakMasked ||| beamSet maskedUnforced cu) d1 := by
  intro cu d1 hlow
  obtain ⟨im, hi⟩ := Evaluated.image hv
  have hcu : withBeam (curtain d c) i
      (rawTiming d.clock (im.stuckLimit * 1000) false { (curtain d c).beams.get i with raw := false }) = cu := by
    rw [rawTiming_eq]
    simp [cu, hmask]
  have hc : cu.breakState = .broken := hbroken
  rw [rawChange_judged hv hi hdead hu hraw, hcu, setsJoined_active (by simp [hc]), judgeBreak_broken (by simpa using hc),
    if_neg]
  · simp only [curtain_setCurtain_same, setCurtain_setCurtain]
    rfl
  · rw [curtain_setCurtain_same]
    exact Nat.not_le.2 hlow

/-! ### Track lists -/

/-- R82: with fewer than 16 ids held the counter stops at one that is free. -/
theorem freeId_fresh {held : List Byte} (c : Byte) (h : held.length < 16) : freeId held 16 c ∉ held := by
  have scan : ∀ (k : Nat) (c : Byte), freeId held k c ∉ held ∨ ∀ j < k, c + BitVec.ofNat 8 j ∈ held := fun k => by
    induction k with
    | zero => exact fun c => .inr fun j hj => absurd hj (by omega)
    | succ k ih =>
      intro c
      by_cases hc : c ∈ held
      · rcases ih (c + 1#8) with hfree | hheld
        · exact .inl (by simpa [freeId, hc] using hfree)
        · refine .inr fun j hj => ?_
          cases j with
          | zero => simp [hc]
          | succ j =>
            have := hheld j (by omega)
            rwa [BitVec.add_assoc, BitVec.add_comm 1#8, ← BitVec.ofNat_add] at this
      · exact .inl (by simp [freeId, hc])
  refine (scan 16 c).resolve_right fun hheld => ?_
  have hnodup : ((List.range 16).map fun j => c + BitVec.ofNat 8 j).Nodup := by
    refine List.nodup_range.map_on fun j hj k hk hjk => ?_
    have hj16 : j < 16 := List.mem_range.1 hj
    have hk16 : k < 16 := List.mem_range.1 hk
    bv_omega
  have hsub : ((List.range 16).map fun j => c + BitVec.ofNat 8 j) ⊆ held := fun x hx => by
    obtain ⟨j, hj, rfl⟩ := List.mem_map.1 hx
    exact hheld j (List.mem_range.1 hj)
  have := (List.subperm_of_subset hnodup hsub).length_le
  simp at this
  omega

theorem find_insertTrack {tr : Track} {l : List Track} (h : ∀ x ∈ l, x.id ≠ tr.id) :
    (insertTrack tr l).find? (fun x => x.id == tr.id) = some tr := by
  induction l with
  | nil => simp [insertTrack]
  | cons x rest ih =>
    rw [insertTrack]
    split
    · simp
    · rw [List.find?_cons_of_neg (by simpa using h x (by simp)), ih fun y hy => h y (by simp [hy])]

theorem findTrack_modifyTrack {d : Device} {id : Byte} {tr : Track} (f : Track → Track) (hf : ∀ x, (f x).id = x.id)
    (h : findTrack d id = some tr) : findTrack (modifyTrack id f d) id = some (f tr) := by
  have hid : ∀ x : Track, ((if x.id == id then f x else x).id == id) = (x.id == id) := fun x => by split <;> simp [hf]
  have hfound : (if tr.id == id then f tr else tr) = f tr := by simp [(findTrack_some h).2]
  simp only [findTrack, modifyTrack, setTracks, List.find?_map, Function.comp_def, hid]
  rw [show d.htk.tracks.find? (fun x => x.id == id) = some tr from h, Option.map_some, hfound]

/-- Tracks that keep their ids may change beside the ones a filter by id keeps. -/
theorem filter_modifyTrack (d : Device) (id : Byte) (f : Track → Track) (hf : ∀ x, (f x).id = x.id) :
    (modifyTrack id f d).htk.tracks.filter (fun x => x.id != id) = d.htk.tracks.filter fun x => x.id != id := by
  have hid : ∀ x : Track, ((if x.id == id then f x else x).id != id) = (x.id != id) := fun x => by split <;> simp [hf]
  have hsame : ∀ x ∈ d.htk.tracks.filter (fun x => x.id != id), (if x.id == id then f x else x) = x := fun x hx => by
    simp [(by simpa using (List.mem_filter.1 hx).2 : x.id ≠ id)]
  simp only [modifyTrack, setTracks, List.filter_map, Function.comp_def, hid]
  exact (List.map_congr_left hsame).trans (List.map_id' _)

/-! ### Association of a verify event -/

theorem verifyFit_fst {side : Side} {e : VerifyEntry} {tr : Track} {y : Track × Nat}
    (h : verifyFit side e tr = some y) : y.1 = tr := by
  simp only [verifyFit] at h
  split at h
  · exact (congrArg Prod.fst (Option.some.inj h)).symm
  · cases h

/-- The fits among the tracks a condition keeps are the fits it keeps. -/
theorem filterMap_verifyFit (side : Side) (e : VerifyEntry) (keep : Track → Bool) (l : List Track) :
    (l.filter keep).filterMap (verifyFit side e) = (l.filterMap (verifyFit side e)).filter fun y => keep y.1 := by
  induction l with
  | nil => rfl
  | cons x rest ih =>
    cases hx : verifyFit side e x with
    | none => cases hk : keep x <;> simp [hx, hk, ih]
    | some y =>
      have hy : keep y.1 = keep x := by rw [verifyFit_fst hx]
      cases hk : keep x <;> simp [hx, hk, hy, ih]

/-- R94: no fit, no match. -/
theorem verifyMatch_none {side : Side} {e : VerifyEntry} {l : List Track} (h : ∀ tr ∈ l, verifyFit side e tr = none) :
    verifyMatch side e l = none := by
  have hl : l.filterMap (verifyFit side e) = [] := List.filterMap_eq_nil_iff.2 h
  simp [verifyMatch, filterMap_verifyFit, hl, bestFit]

/-- R94: the only fit is the match, in whichever stage. -/
theorem verifyMatch_single {side : Side} {e : VerifyEntry} {l : List Track} {y : Track × Nat}
    (h : l.filterMap (verifyFit side e) = [y]) : verifyMatch side e l = some y := by
  cases hk : beforeExposure y.1.state <;> simp [verifyMatch, filterMap_verifyFit, h, hk, bestFit]

/-- R94: verify events are for the own track. -/
theorem takeVerify_elsewhere {track : Nat} {d : Device} (h : track ≠ ownTrack d) (side : Side) (e : VerifyEntry) :
    takeVerify track side e d = d := if_pos h

theorem takeVerify_unmatched {track : Nat} {side : Side} {e : VerifyEntry} {d : Device} (h : track = ownTrack d)
    (hfit : ∀ tr ∈ d.htk.tracks, verifyFit side e tr = none) :
    takeVerify track side e d = newTrack side [] (some e) d := by
  simp [takeVerify, h, verifyMatch_none hfit]

section Matched

variable {track : Nat} {side : Side} {e : VerifyEntry} {d : Device} {tr : Track} {k : Nat}

/-- R94: an event after the exposure has begun is stored. -/
theorem takeVerify_exposing (h : track = ownTrack d) (hfit : d.htk.tracks.filterMap (verifyFit side e) = [(tr, k)])
    (hs : tr.state = .exposing) : takeVerify track side e d = modifyTrack tr.id (storeVerify e) d := by
  simp [takeVerify, h, verifyMatch_single hfit, hs]

/-- R102: an event of an armed track is stored and trims its burst. -/
theorem takeVerify_armed (h : track = ownTrack d) (hfit : d.htk.tracks.filterMap (verifyFit side e) = [(tr, k)])
    (hs : tr.state = .armed) :
    takeVerify track side e d = trimTrack tr.id (modifyTrack tr.id (storeVerify e) d) := by
  simp [takeVerify, h, verifyMatch_single hfit, hs]

end Matched

/-! ### A verify event that fits no track (R96) -/

theorem newTrack_verifyOnly {side : Side} {e : VerifyEntry} {d : Device} {im : Image} (hi : d.cfl.image = some im) :
    let pr := predictVerify .verifyOnly e
    (outOfReach im d.clock pr = true → newTrack side [] (some e) d = countTooFar d)
    ∧ (outOfReach im d.clock pr = false → d.htk.tracks.length < 16 →
        newTrack side [] (some e) d = createTrack im (newcomer side [] (some e) pr false) d) := by
  intro pr
  have hp : predict [] (some e) = some (pr, false) := rfl
  refine ⟨fun hfar => ?_, fun hnear hroom => ?_⟩
  · simp [newTrack, hp, hi, hfar]
  · simp [newTrack, hp, hi, hnear, hroom]

/-- R98: a newcomer whose plan horizon is ahead waits for it. -/
theorem createTrack_ahead {im : Image} {tr : Track} {d : Device} (hi : d.cfl.image = some im)
    (hroom : d.htk.tracks.length < 16) (ha : isAfter (planHorizonTime im tr.pred) d.clock = true) :
    let id := freeId (d.htk.tracks.map (·.id)) 16 d.htk.nextId
    createTrack im tr d = { d with htk := { d.htk with
      nextId := id + 1#8, nextCreated := d.htk.nextCreated + 1,
      tracks := (insertTrack { tr with
          id := id, created := d.htk.nextCreated, missDeadline := some (missTime im tr.pred) } d.htk.tracks).map fun x =>
        if x.id == id then { x with planHorizon := some (planHorizonTime im tr.pred) } else x } } := by
  intro id
  have hfresh : ∀ x ∈ d.htk.tracks, x.id ≠ id := fun x hx he =>
    freeId_fresh (held := d.htk.tracks.map (·.id)) d.htk.nextId (by simpa using hroom) (List.mem_map.2 ⟨x, hx, he⟩)
  generalize hentry : ({ tr with
    id := id, created := d.htk.nextCreated, missDeadline := some (missTime im tr.pred) } : Track) = entry
  have hid : entry.id = id := by rw [← hentry]
  have hpred : entry.pred = tr.pred := by rw [← hentry]
  have hfind := find_insertTrack (tr := entry) (l := d.htk.tracks) (by rwa [hid])
  rw [hid] at hfind
  have hc : createTrack im tr d = enterHorizon id { d with htk := { d.htk with
      tracks := insertTrack entry d.htk.tracks, nextId := id + 1#8, nextCreated := d.htk.nextCreated + 1 } } := by
    rw [← hentry]
    rfl
  rw [hc, enterHorizon]
  simp only [findTrack, hfind, hi, hpred, ha, if_true, modifyTrack, setTracks]

theorem planHorizonTime_eq (im : Image) (p : Prediction) :
    planHorizonTime im p = p.tPred - BitVec.ofNat 32 (im.planHorizon * 1000) := by
  rw [planHorizonTime, shiftBy, BitVec.ofInt_neg, BitVec.ofInt_natCast, BitVec.sub_eq_add_neg]

/-- R96, R98: a verify event of the own track that fits no track. -/
theorem takeVerify_creates {track : Nat} {side : Side} {e : VerifyEntry} {d : Device} {im : Image}
    (hi : d.cfl.image = some im) (hown : track = im.ownTrack) (hfit : ∀ tr ∈ d.htk.tracks, verifyFit side e tr = none) :
    let pr := predictVerify .verifyOnly e
    let horizon := pr.tPred - BitVec.ofNat 32 (im.planHorizon * 1000)
    let id := freeId (d.htk.tracks.map (·.id)) 16 d.htk.nextId
    (outOfReach im d.clock pr = true → takeVerify track side e d = countTooFar d)
    ∧ (outOfReach im d.clock pr = false → d.htk.tracks.length < 16 → isAfter horizon d.clock = true →
        takeVerify track side e d = { d with htk := { d.htk with
          nextId := id + 1#8, nextCreated := d.htk.nextCreated + 1,
          tracks := (insertTrack { newcomer side [] (some e) pr false with
              id := id, created := d.htk.nextCreated, missDeadline := some (missTime im pr) } d.htk.tracks).map fun x =>
            if x.id == id then { x with planHorizon := some horizon } else x } }) := by
  intro pr horizon id
  have htake : takeVerify track side e d = newTrack side [] (some e) d :=
    takeVerify_unmatched (by simp [ownTrack, hi, hown]) hfit
  have hhorizon : planHorizonTime im (newcomer side [] (some e) pr false).pred = horizon := planHorizonTime_eq im pr
  refine ⟨fun hfar => ?_, fun hnear hroom ha => ?_⟩
  · rw [htake, (newTrack_verifyOnly hi).1 hfar]
  · rw [htake, (newTrack_verifyOnly hi).2 hnear hroom,
      createTrack_ahead (tr := newcomer side [] (some e) pr false) hi hroom (by rw [hhorizon]; exact ha), hhorizon]
    rfl

/-! ### A verify event that fits a track in ARMED (R102) -/

theorem clampInt_eq {lo hi : Int} (x : Int) (h : lo ≤ hi) : clampInt lo hi x = max lo (min hi x) := by
  unfold clampInt
  split
  · omega
  · split <;> omega

/-- R159, R160: no pulse is issued while the pulse of every open frame lies ahead. -/
theorem issuePulses_ahead {d : Device} (h : ∀ b ∈ d.cdu.bursts, ∀ f ∈ b.frames,
    (!f.issued && f.outcome.isNone) = true → isAfter f.pulse d.clock = true) : issuePulses d = d := by
  rcases issuePulses_cases d with e | ⟨b, rest, im, f, hb, -, hf, hm, -⟩
  · exact e
  · have ha := h b (by simp [hb]) f (List.mem_of_find?_eq_some hf)
      (List.find?_some (p := fun f : BurstFrame => !f.issued && f.outcome.isNone) hf)
    simp [mayIssue, ha] at hm

/-- A frame not yet issued, moved to a pulse time that lies ahead (R102). -/
def movedFrame (moved : Int) (f : BurstFrame) : BurstFrame :=
  if !f.issued && f.outcome.isNone then { f with pulse := shiftBy f.pulse moved, overdue := false } else f

/-- The burst of a track, moved. -/
def movedBurst (id : Byte) (moved : Int) (b : Burst) : Burst :=
  if b.trackId == id then { b with frames := b.frames.map (movedFrame moved) } else b

section Trim

variable {d : Device} {id : Byte} {moved : Int}
  (h : ∀ b ∈ d.cdu.bursts, ∀ f ∈ b.frames, f.issued = false →
    isAfter (if b.trackId = id then shiftBy f.pulse moved else f.pulse) d.clock = true)

include h

/-- R102: a trim that moves no pulse to a time already reached marks none as overdue. -/
theorem trimBurst_ahead :
    trimBurst id moved d = { d with cdu := { d.cdu with bursts := d.cdu.bursts.map (movedBurst id moved) } } := by
  have hburst : ∀ b ∈ d.cdu.bursts, (if b.trackId == id then
      { b with frames := b.frames.map fun f =>
          if !f.issued && f.outcome.isNone then
            { f with pulse := shiftBy f.pulse moved, overdue := !isAfter (shiftBy f.pulse moved) d.clock }
          else f }
      else b) = movedBurst id moved b := fun b hb => by
    unfold movedBurst
    split
    · rename_i hid
      congr 1
      refine List.map_congr_left fun f hf => ?_
      unfold movedFrame
      split
      · rename_i hopen
        have ha := h b hb f hf (by simpa using (Bool.and_eq_true_iff.1 hopen).1)
        rw [if_pos (by simpa using hid)] at ha
        simp [ha]
      · rfl
    · rfl
  unfold trimBurst
  rw [List.map_congr_left hburst]

/-- R160: such a trim issues no pulse. -/
theorem issuePulses_trimBurst : issuePulses (trimBurst id moved d) = trimBurst id moved d := by
  rw [trimBurst_ahead h]
  refine issuePulses_ahead fun b hb f hf hopen => ?_
  obtain ⟨b0, hb0, rfl⟩ := List.mem_map.1 hb
  unfold movedBurst at hf
  split at hf
  · rename_i hid
    obtain ⟨f0, hf0, rfl⟩ := List.mem_map.1 hf
    unfold movedFrame at hopen ⊢
    split at hopen
    · rename_i hopen0
      have ha := h b0 hb0 f0 hf0 (by simpa using (Bool.and_eq_true_iff.1 hopen0).1)
      rw [if_pos (by simpa using hid)] at ha
      simpa [hopen0] using ha
    · exact absurd hopen ‹_›
  · rename_i hid
    have ha := h b0 hb0 f hf (by simpa using (Bool.and_eq_true_iff.1 hopen).1)
    rwa [if_neg (by simpa using hid)] at ha

end Trim

/-- R102: the verify event that fits one track alone, in ARMED, with every pulse ahead after the trim. -/
theorem takeVerify_trims {track : Nat} {side : Side} {e : VerifyEntry} {d : Device} {tr : Track} {k : Nat} {im : Image}
    (hi : d.cfl.image = some im) (hown : track = im.ownTrack) (hfound : findTrack d tr.id = some tr)
    (hfit : d.htk.tracks.filterMap (verifyFit side e) = [(tr, k)]) (hs : tr.state = .armed) :
    let residual := timeDiff (predictVerify .verified e).tPred tr.pred.tPred
    let moved := max (-(im.trimLimit : Int)) (min (im.trimLimit : Int) residual)
    let p := predictVerify (if tr.sightings = [] then .verifyOnly else .verified) e
    let tr' := trimmed p residual moved (storeVerify e tr)
    (∀ b ∈ d.cdu.bursts, ∀ f ∈ b.frames, f.issued = false →
      isAfter (if b.trackId = tr.id then shiftBy f.pulse moved else f.pulse) d.clock = true) →
    takeVerify track side e d = { d with
      htk := { d.htk with tracks := insertTrack tr' (d.htk.tracks.filter fun x => x.id != tr.id) },
      cdu := { d.cdu with bursts := d.cdu.bursts.map (movedBurst tr.id moved) } } := by
  intro residual moved p tr' hahead
  have hfound' : findTrack (modifyTrack tr.id (storeVerify e) d) tr.id = some (storeVerify e tr) :=
    findTrack_modifyTrack (storeVerify e) (fun _ => rfl) hfound
  have htrim : trimTrack tr.id (modifyTrack tr.id (storeVerify e) d) = issuePulses (trimBurst tr.id moved
      (placeTrack tr' (modifyTrack tr.id (storeVerify e) d))) := by
    have hpredict : predict (storeVerify e tr).sightings (storeVerify e tr).verify = some (p, false) := by
      simp [predict, storeVerify, p]
    have hresidual : (storeVerify e tr).residual = some residual := rfl
    have hclamp : clampInt (-(im.trimLimit : Int)) im.trimLimit residual = moved := clampInt_eq residual (by omega)
    simp only [trimTrack, hfound', modifyTrack_frame, hi, hpredict, hresidual, hclamp]
    rfl
  rw [takeVerify_armed (by simp [ownTrack, hi, hown]) hfit hs, htrim, issuePulses_trimBurst (by simpa using hahead),
    trimBurst_ahead (by simpa using hahead)]
  have hfilter : (modifyTrack tr.id (storeVerify e) d).htk.tracks.filter (fun x => x.id != tr.id)
    = d.htk.tracks.filter fun x => x.id != tr.id := filter_modifyTrack d tr.id (storeVerify e) fun _ => rfl
  have hid : tr'.id = tr.id := rfl
  rw [placeTrack, hid, hfilter]
  rfl

/-! ### An inner break end, by role -/

/-- The contents of a passage event's SIGHTING (R19, R21). -/
def passageContents (p : Fin 2) (pc : PairConfig) (q : Sequencer) (t1 t2 : Time) (beams masked : Byte) :
    SightingContents :=
  let v := passageSpeed pc.b t1 t2
  let band := heightBand pc.heights beams masked
  { pair := p, track := pc.track, seq := q.approachSeq, v := v.1, band := band.1, clamped := v.2,
    partialHeight := band.2, forced := q.forcedSeen, t2 := t2 }

/-- The verify event of a passage (R22). -/
def passageVerify (pc : PairConfig) (q : Sequencer) (t1 t2 : Time) (beams masked : Byte) : VerifyEntry :=
  let v := passageSpeed pc.b t1 t2
  let band := heightBand pc.heights beams masked
  { d := pc.d, t2 := t2, v := v.1, band := band.1, partialHeight := band.2, forced := q.forcedSeen }

/-- The APPROACHING record of a passage (R21, R175). -/
def approachingRecord (p : Fin 2) (pc : PairConfig) (q : Sequencer) (t1 t2 : Time) (beams masked : Byte)
    (passage : BitVec 24) : SightingRecord :=
  let v := passageSpeed pc.b t1 t2
  let band := heightBand pc.heights beams masked
  { passage := passage, pair := p, direction := .approaching, t1 := t1, t2v := some (t2, v.1), band := band.1,
    clamped := v.2, partialHeight := band.2, forced := q.forcedSeen }

/-- A sequencer after an approaching passage (R15, R19). -/
def passageEnded (q : Sequencer) : Sequencer := withPassageGone { q with approachSeq := q.approachSeq + 1#8 }

section InnerEnd

variable {p : Fin 2} {pc : PairConfig} {beams masked : Byte} {d : Device} {t1 t2 : Time}
  (hs : (sequencer d p).state = .inner) (h1 : (sequencer d p).t1 = some t1) (h2 : (sequencer d p).t2 = some t2)
  (hp : (sequencer d p).pendingOuter = none)

include hs h1 h2 hp

theorem innerEnd_approach (hrole : d.cfl.role = some .approach) (hr : d.rqs.records.length < 32) :
    ∃ (fx : Fx) (liu : Liu),
      innerEnd p pc beams masked d = setSequencer p (passageEnded (sequencer d p)) { d with
        fx := fx, liu := liu,
        rqs := { d.rqs with
          passage := bcdSucc d.rqs.passage,
          records := d.rqs.records ++ [.sighting
            (approachingRecord p pc (sequencer d p) t1 t2 beams masked (bcdSucc d.rqs.passage))] } }
      ∧ SightingRequested (passageContents p pc (sequencer d p) t1 t2 beams masked) d fx liu := by
  obtain ⟨fx, liu, hreq, hasked⟩ := requestSighting_parts (passageContents p pc (sequencer d p) t1 t2 beams masked) d
  refine ⟨fx, liu, ?_, hasked⟩
  rw [innerEnd_completes hs h1 h2 hp, emitApproaching_approach hrole hr]
  exact congrArg (fun x : Device => setSequencer p (passageEnded (sequencer d p)) { x with rqs := _ }) hreq

/-- What the verify event does to the Head Tracker and the Camera Drive Unit stands beside the request. -/
theorem innerEnd_camera (hrole : d.cfl.role = some .camera) {htk : Htk} {cdu : Cdu}
    (htake : takeVerify pc.track pc.side (passageVerify pc (sequencer d p) t1 t2 beams masked) d
      = { d with htk := htk, cdu := cdu }) :
    ∃ (fx : Fx) (liu : Liu),
      innerEnd p pc beams masked d = setSequencer p (passageEnded (sequencer d p))
        { d with htk := htk, cdu := cdu, fx := fx, liu := liu }
      ∧ SightingRequested (passageContents p pc (sequencer d p) t1 t2 beams masked) d fx liu := by
  obtain ⟨fx, liu, hreq, hasked⟩ := requestSighting_parts (passageContents p pc (sequencer d p) t1 t2 beams masked)
    { d with htk := htk, cdu := cdu }
  refine ⟨fx, liu, ?_, hasked⟩
  rw [innerEnd_completes hs h1 h2 hp, emitApproaching_camera hrole]
  exact congrArg (setSequencer p (passageEnded (sequencer d p)))
    ((congrArg (requestSighting (passageContents p pc (sequencer d p) t1 t2 beams masked)) htake).trans hreq)

end InnerEnd

end Sys2Proof.Machine

namespace Sys2Proof.Settled

open Sys2Proof.Machine

/-- Settles O14: the break's end is judged on a curtain already CLEAR; then by the curtain, the role and, for a verify
event, the tracks it fits. -/
theorem passageRecorded : Obligations.PassageRecorded := by
  intro t c i s d pc t1 t2 hd hv hrec hbroken hdead hu hraw hmask hforce q cu v band ciu requested ev verified hlow h1 h2
  let d1 := setCurtain c (withBreakGone cu) d
  have hx : exec (.rawLevelChange t c i false) s = .next (settled s
      (if isOuter c then outerEnd (pairOf c) pc d1
        else innerEnd (pairOf c) pc (cu.breakBeams ||| beamSet interrupted cu)
          (cu.breakMasked ||| beamSet maskedUnforced cu) d1)) := by
    have e : exec (.rawLevelChange t c i false) s = taken t (rawChange c i false) s := if_neg (by simp [hd.1])
    rw [e, taken_found _ hd, rawChange_endsBreak hv hbroken hdead hu hraw hmask hlow]
  refine ⟨fun ho hs hp hrole => ?_, fun im hi ho hs hp hrole => ?_, fun ho hs hrole => ?_, fun ho hs hrole => ?_⟩
  · obtain ⟨fx, liu, he, hasked⟩ := innerEnd_approach (pc := pc) (beams := cu.breakBeams ||| beamSet interrupted cu)
      (masked := cu.breakMasked ||| beamSet maskedUnforced cu) (d := d1) hs h1 h2 hp hrole hrec
    refine ⟨fx, liu, ?_, hasked⟩
    rw [hx, if_neg (by simp [ho]), he]
    rfl
  · have hverified : ∀ {htk : Htk} {cdu : Cdu},
        takeVerify pc.track pc.side ev d1 = { d1 with htk := htk, cdu := cdu } → verified htk cdu := by
      intro htk cdu htake
      obtain ⟨fx, liu, he, hasked⟩ := innerEnd_camera (pc := pc) (beams := cu.breakBeams ||| beamSet interrupted cu)
        (masked := cu.breakMasked ||| beamSet maskedUnforced cu) (d := d1) hs h1 h2 hp hrole htake
      refine ⟨fx, liu, ?_, hasked⟩
      rw [hx, if_neg (by simp [ho]), he]
      rfl
    have hown : ownTrack d1 = im.ownTrack := by simp [ownTrack, d1, hi]
    refine ⟨fun hne => hverified (takeVerify_elsewhere (by rwa [hown]) _ _), fun heq hfit => ?_,
      fun tr k heq hfound hfit => ?_⟩
    · intro pr
      obtain ⟨hfar, hcreates⟩ := takeVerify_creates (d := d1) hi heq hfit
      exact ⟨fun h => hverified (hfar h), fun hnear hroom ha => hverified (hcreates hnear hroom ha)⟩
    · intro residual
      exact ⟨fun hst => hverified (takeVerify_exposing (hown ▸ heq) hfit hst),
        fun hst hahead => hverified (takeVerify_trims (d := d1) hi heq hfound hfit hst hahead)⟩
  · rw [hx, if_pos ho, outerEnd_completes (d := d1) hs h1 h2, emitDeparting_approach (d := d1) hrole hrec]
    rfl
  · rw [hx, if_pos ho, outerEnd_completes (d := d1) hs h1 h2, emitDeparting_camera (d := d1) hrole]
    rfl

end Sys2Proof.Settled

/-! ## The bounds of lists, queues and counters (R40, R49, R81, R82, R96, R136, R174, 8.2)

`InBounds` is kept by every operation; one lemma per operation that can add to a list, a queue or a counter, in the
order of the model's files. An operation that adds to none of them keeps it by `InBounds.mono`. -/

namespace Sys2Proof.Machine

/-- The bounds of TABLE 2-1, 8.2 and the rules on lists and counters, by block, and track ids distinct (R82). -/
structure InBounds (d : Device) : Prop where
  records : d.rqs.records.length ≤ 32
  queue : d.fx.queue.length ≤ 8
  tracks : (d.htk.tracks.map (·.id)).length ≤ 16
  distinct : (d.htk.tracks.map (·.id)).Nodup
  claims : d.crs.claims.length ≤ 8
  bursts : d.cdu.bursts.length ≤ 2
  qualityA : d.liu.pairA.quality ≤ 255
  qualityB : d.liu.pairB.quality ≤ 255
  collisions : d.liu.collisions ≤ 8
  tooFar : d.htk.tooFar ≤ 65535

theorem inBounds_iff (d : Device) : InBounds d ↔ Bounded d ∧ TracksDistinct d := by
  constructor
  · rintro ⟨hr, hq, ht, hd, hc, hb, ha, hb', hk, hf⟩
    exact ⟨⟨hr, hq, by simpa using ht, hc, hb, ha, hb', hk, hf⟩, hd⟩
  · rintro ⟨⟨hr, hq, ht, hc, hb, ha, hb', hk, hf⟩, hd⟩
    exact ⟨hr, hq, by simpa using ht, hd, hc, hb, ha, hb', hk, hf⟩

/-- A part that holds no more than one in bounds is in bounds. -/
theorem InBounds.mono {d d' : Device} (h : InBounds d)
    (e : d'.rqs.records.length ≤ d.rqs.records.length ∧ d'.fx.queue.length ≤ d.fx.queue.length
      ∧ (d'.htk.tracks.map (·.id)).Sublist (d.htk.tracks.map (·.id)) ∧ d'.crs.claims.length ≤ d.crs.claims.length
      ∧ d'.cdu.bursts.length ≤ d.cdu.bursts.length ∧ d'.liu.pairA.quality ≤ d.liu.pairA.quality
      ∧ d'.liu.pairB.quality ≤ d.liu.pairB.quality ∧ d'.liu.collisions ≤ d.liu.collisions
      ∧ d'.htk.tooFar ≤ d.htk.tooFar) : InBounds d' := by
  obtain ⟨hr, hq, ht, hc, hb, ha, hb', hk, hf⟩ := e
  exact ⟨hr.trans h.records, hq.trans h.queue, ht.length_le.trans h.tracks, ht.nodup h.distinct, hc.trans h.claims,
    hb.trans h.bursts, ha.trans h.qualityA, hb'.trans h.qualityB, hk.trans h.collisions, hf.trans h.tooFar⟩

/-- A Camera Drive Unit with no more bursts. -/
theorem InBounds.cdu {d : Device} {cdu : Cdu} (h : InBounds d) (hc : cdu.bursts.length ≤ d.cdu.bursts.length) :
    InBounds { d with cdu := cdu } := h.mono (by simpa using hc)

/-- What the line does within the bounds of its own counters. -/
theorem InBounds.liu {d d' : Device} (h : InBounds d)
    (e : d'.rqs = d.rqs ∧ d'.fx = d.fx ∧ d'.htk = d.htk ∧ d'.crs = d.crs ∧ d'.cdu = d.cdu)
    (ha : d'.liu.pairA.quality ≤ 255) (hb : d'.liu.pairB.quality ≤ 255) (hc : d'.liu.collisions ≤ 8) :
    InBounds d' := by
  obtain ⟨hr, hf, ht, hcrs, hcdu⟩ := e
  obtain ⟨h1, h2, h3, h4, h5, h6, -, -, -, h7⟩ := h
  exact ⟨hr ▸ h1, hf ▸ h2, ht ▸ h3, ht ▸ h4, hcrs ▸ h5, hcdu ▸ h6, ha, hb, hc, ht ▸ h7⟩

theorem InBounds.ciu {d : Device} {ciu : Ciu} (h : InBounds d) : InBounds { d with ciu := ciu } := h.mono (by simp)

theorem InBounds.pins {d : Device} {pins : Pins} (h : InBounds d) : InBounds { d with pins := pins } := h.mono (by simp)

theorem InBounds.raise {d : Device} (f : EventFlag) (h : InBounds d) : InBounds (raise f d) := h.mono (by simp)

/-! ### Ops.lean -/

/-- A change of the live tracks that leaves their ids. -/
theorem map_ids {l : List Track} {f : Track → Track} (hf : ∀ x ∈ l, (f x).id = x.id) :
    (l.map f).map (·.id) = l.map (·.id) := by
  rw [List.map_map]
  exact List.map_congr_left hf

theorem modifyTrack_inBounds {d : Device} {id : Byte} {f : Track → Track} (hf : ∀ x, x.id = id → (f x).id = id)
    (h : InBounds d) : InBounds (modifyTrack id f d) := by
  have hids : (modifyTrack id f d).htk.tracks.map (·.id) = d.htk.tracks.map (·.id) := map_ids fun x _ => by
    split
    · have hx : x.id = id := by simp_all
      rw [hf x hx, hx]
    · rfl
  exact h.mono (by rw [hids]; simp)

/-- Fewer of the live tracks. -/
theorem setTracks_inBounds {d : Device} {l : List Track} (h : InBounds d) (hl : l.Sublist d.htk.tracks) :
    InBounds (setTracks l d) := h.mono (by simp [hl.map])

theorem insertTrack_perm (tr : Track) (l : List Track) : (insertTrack tr l).Perm (tr :: l) := by
  induction l with
  | nil => rfl
  | cons x rest ih =>
    unfold insertTrack
    split
    · rfl
    · exact (ih.cons x).trans (.swap tr x rest)

theorem insertTrack_ids_perm (tr : Track) (l : List Track) :
    ((insertTrack tr l).map (·.id)).Perm (tr.id :: l.map (·.id)) := (insertTrack_perm tr l).map _

/-- R81: a live track moved in the list holds its own id alone. -/
theorem placeTrack_inBounds {d : Device} {tr : Track} (h : InBounds d) (hlive : tr.id ∈ d.htk.tracks.map (·.id)) :
    InBounds (placeTrack tr d) := by
  have hperm : ((placeTrack tr d).htk.tracks.map (·.id)).Perm (d.htk.tracks.map (·.id)) := by
    refine (insertTrack_ids_perm tr _).trans ?_
    have he : ((d.htk.tracks.filter fun x => x.id != tr.id).map (·.id))
        = (d.htk.tracks.map (·.id)).erase tr.id := by
      rw [h.distinct.erase_eq_filter, List.filter_map]
      rfl
    rw [he]
    exact (List.perm_cons_erase hlive).symm
  exact { h.mono (d' := { placeTrack tr d with htk := d.htk }) (by simp) with
    tracks := hperm.length_eq.trans_le h.tracks
    distinct := hperm.nodup_iff.2 h.distinct
    tooFar := h.tooFar }

/-! ### Records.lean -/

/-- R174: the record queue never holds more than 32. -/
theorem offerRecord_inBounds {d : Device} (advance : Bool) (make : BitVec 24 → Record) (h : InBounds d) :
    InBounds (offerRecord advance make d) :=
  { h.mono (d' := { offerRecord advance make d with rqs := d.rqs }) (by simp) with
    records := offerRecord_bound advance make d h.records }

theorem offerCapture_inBounds {d : Device} (r : CaptureRecord) (h : InBounds d) : InBounds (offerCapture r d) :=
  offerRecord_inBounds _ _ h

theorem offerSighting_inBounds {d : Device} (r : SightingRecord) (h : InBounds d) : InBounds (offerSighting r d) :=
  offerRecord_inBounds _ _ h

/-! ### Exchange.lean -/

@[simp] theorem followQueue_collisions (d : Device) : (followQueue d).liu.collisions = d.liu.collisions := by
  unfold followQueue
  (repeat' split) <;> simp [transmitterEmpty, transmitterWaits, transmitterDefers]

@[simp] theorem forgetCollided_collisions_le (d : Device) : (forgetCollided d).liu.collisions ≤ d.liu.collisions := by
  unfold forgetCollided
  (repeat' split) <;> simp

@[simp] theorem setQueue_collisions_le (q : List QueueEntry) (d : Device) :
    (setQueue q d).liu.collisions ≤ d.liu.collisions := by
  rw [setQueue, followQueue_collisions]
  exact forgetCollided_collisions_le _

@[simp] theorem supersede_collisions_le (order : Nat) (d : Device) :
    (supersede order d).liu.collisions ≤ d.liu.collisions := by
  unfold supersede
  split <;> simp

@[simp] theorem supersede_pairs (order : Nat) (d : Device) :
    (supersede order d).liu.pairA = d.liu.pairA ∧ (supersede order d).liu.pairB = d.liu.pairB := by
  unfold supersede
  split <;> simp

/-- R49: a queue of at most 8 may take the place of the queue. -/
theorem setQueue_inBounds {d : Device} {q : List QueueEntry} (h : InBounds d) (hq : q.length ≤ 8) :
    InBounds (setQueue q d) :=
  { h.mono (d' := { setQueue q d with fx := d.fx }) (by simp) with queue := by simpa using hq }

theorem removeEntry_inBounds {d : Device} (order : Nat) (h : InBounds d) : InBounds (removeEntry order d) :=
  setQueue_inBounds h ((List.length_filter_le _ _).trans h.queue)

theorem modifyEntry_inBounds {d : Device} (order : Nat) (f : QueueEntry → QueueEntry) (h : InBounds d) :
    InBounds (modifyEntry order f d) := setQueue_inBounds h (by simpa using h.queue)

theorem supersede_inBounds {d : Device} (order : Nat) (h : InBounds d) : InBounds (supersede order d) :=
  h.mono (by simp)

/-- R54: a newcomer to a full queue takes the place its victim leaves. -/
theorem joinQueue_inBounds {d : Device} (out : Outbound) (h : InBounds d) : InBounds (joinQueue out d).1 := by
  have hnext : InBounds { d with fx := { d.fx with nextOrder := d.fx.nextOrder + 1 } } := h.mono (by simp)
  rcases joinQueue_cases out d with ⟨hl, e⟩ | ⟨-, v, hv, e⟩ | ⟨-, -, e⟩ <;> rw [e]
  · exact setQueue_inBounds hnext (by rw [length_joinByClass]; exact hl)
  · obtain ⟨hmem, -, -⟩ := victimFor_some hv
    have hlt : (d.fx.queue.filter fun x => x.order != v.order).length < d.fx.queue.length :=
      List.length_filter_lt_length_iff_exists.2 ⟨v, hmem, by simp⟩
    have hq := h.queue
    exact setQueue_inBounds hnext (by rw [length_joinByClass]; omega)
  · exact h

theorem requestPresence_inBounds {d : Device} (h : InBounds d) : InBounds (requestPresence d) := by
  unfold requestPresence
  split
  · split
    · split
      · exact h
      · exact supersede_inBounds _ h
    · exact joinQueue_inBounds _ h
  · exact h

theorem requestSighting_inBounds {d : Device} (c : SightingContents) (h : InBounds d) :
    InBounds (requestSighting c d) := by
  unfold requestSighting
  split
  · exact joinQueue_inBounds _ h
  · exact h

theorem requestClaim_inBounds {d : Device} (c : ClaimContents) (h : InBounds d) : InBounds (requestClaim c d).1 := by
  unfold requestClaim
  split
  · exact h
  · split
    · split
      · exact modifyEntry_inBounds _ _ h
      · exact modifyEntry_inBounds _ _ (supersede_inBounds _ h)
    · exact joinQueue_inBounds _ h

theorem requestRelease_inBounds {d : Device} (id : Byte) (h : InBounds d) : InBounds (requestRelease id d) := by
  unfold requestRelease
  split
  · exact h
  · split
    · split
      · exact joinQueue_inBounds _ (modifyEntry_inBounds _ _ h)
      · split
        · exact joinQueue_inBounds _ (removeEntry_inBounds _ h)
        · exact removeEntry_inBounds _ h
    · exact joinQueue_inBounds _ h

/-! ### Camera.lean -/

@[simp] theorem offerMessage_bursts (m : OrderMessage) (d : Device) :
    (offerMessage m d).cdu.bursts = d.cdu.bursts := by
  rcases offerMessage_cases m d with ⟨-, e⟩ | ⟨-, e⟩ <;> rw [e]

@[simp] theorem endMessage_bursts_length (d : Device) :
    (endMessage d).cdu.bursts.length = d.cdu.bursts.length := by
  simp only [endMessage]
  (repeat' split) <;> simp

/-- 8.2, R155: a burst is accepted by a list of fewer than two. -/
theorem acceptBurst_inBounds {d : Device} (im : Image) (tr : Track) (b : Burst) (fp : FlashPlan) (h : InBounds d)
    (ha : acceptsBurst d = true) : InBounds (acceptBurst im tr b fp d) := by
  have hlt : d.cdu.bursts.length < 2 := by simp_all [acceptsBurst]
  exact { h.mono (d' := { acceptBurst im tr b fp d with cdu := d.cdu }) (by simp) with
    bursts := by simp [acceptBurst]; omega }

theorem dropBurst_inBounds {d : Device} (id : Byte) (h : InBounds d) : InBounds (dropBurst id d) :=
  h.mono (by simp [dropBurst, List.length_filter_le])

end Sys2Proof.Machine

namespace Sys2Proof.Machine

/-! ### Tracks.lean -/

theorem closeTrack_inBounds {d : Device} (o : TrackOutcome) (r : Reason) (id : Byte) (h : InBounds d) :
    InBounds (closeTrack o r id d) := by
  unfold closeTrack
  split
  · exact h
  · refine setTracks_inBounds ?_ List.filter_sublist
    split
    · exact requestRelease_inBounds _ (offerCapture_inBounds _ h)
    · exact offerCapture_inBounds _ h

theorem closeIfSettled_inBounds {d : Device} (id : Byte) (h : InBounds d) : InBounds (closeIfSettled id d) := by
  unfold closeIfSettled
  split
  · exact h
  · split
    · exact closeTrack_inBounds _ _ _ h
    · exact h

theorem modifyFrame_inBounds {d : Device} (id : Byte) (k : Nat) (f : FrameEntry → FrameEntry) (h : InBounds d) :
    InBounds (modifyFrame id k f d) := modifyTrack_inBounds (fun _ e => e) h

theorem armTrack_inBounds {d : Device} (id : Byte) (h : InBounds d) : InBounds (armTrack id d) := by
  simp only [armTrack]
  split
  · split
    · exact h
    · have h1 : InBounds (modifyTrack id (fun x => { x with armPoint := none }) d) :=
        modifyTrack_inBounds (fun _ e => e) h
      split
      · exact closeTrack_inBounds _ _ _ h1
      · split
        · exact modifyTrack_inBounds (fun _ e => e)
            (acceptBurst_inBounds _ _ _ _ (modifyTrack_inBounds (fun _ e => e) h1) ‹_›)
        · exact closeTrack_inBounds _ _ _ (modifyTrack_inBounds (fun _ e => e) h1)
  · exact h

theorem fixArmPoint_inBounds {d : Device} (id : Byte) (h : InBounds d) : InBounds (fixArmPoint id d) := by
  unfold fixArmPoint
  split
  · exact h
  · split
    · exact modifyTrack_inBounds (fun _ e => e) h
    · split
      · exact armTrack_inBounds _ h
      · exact closeTrack_inBounds _ _ _ h

@[simp] theorem loseClaim_id (tr : Track) : (loseClaim tr).id = tr.id := by
  unfold loseClaim
  split <;> rfl

theorem claimDecision_inBounds {d : Device} (id : Byte) (h : InBounds d) : InBounds (claimDecision id d).1 := by
  simp only [claimDecision]
  split
  · exact h
  split
  · exact h
  split
  · exact h
  split
  · exact h
  · have hr := fun c => requestClaim_inBounds c h
    split
    · exact modifyTrack_inBounds (fun _ e => e) (hr _)
    · exact modifyTrack_inBounds (fun _ e => e) (hr _)
    · exact modifyTrack_inBounds (fun x e => (loseClaim_id x).trans e) (hr _)

theorem resolveOnce_inBounds {d : Device} (id : Byte) (h : InBounds d) : InBounds (resolveOnce id d).1 := by
  unfold resolveOnce
  split
  · split
    · exact claimDecision_inBounds _ (fixArmPoint_inBounds _ (modifyTrack_inBounds (fun _ e => e) h))
    · exact h
  · exact h

theorem resolveTrack_inBounds {d : Device} (id : Byte) (h : InBounds d) : InBounds (resolveTrack id d) := by
  simp only [resolveTrack]
  split
  · exact resolveOnce_inBounds _ (resolveOnce_inBounds _ h)
  · exact resolveOnce_inBounds _ h

theorem resolveAll_inBounds {d : Device} (h : InBounds d) : InBounds (resolveAll d) :=
  forEach_keeps (fun id _ => resolveTrack_inBounds id) _ h

theorem dropReport_inBounds {d : Device} (r : DropReason) (id : Byte) (h : InBounds d) :
    InBounds (dropReport r id d) := by
  have h1 : InBounds (modifyTrack id loseClaim d) := modifyTrack_inBounds (fun x e => (loseClaim_id x).trans e) h
  unfold dropReport
  split
  · exact h
  · split
    · exact modifyTrack_inBounds (fun _ e => e) h
    all_goals
      simp only []
      split
      · exact resolveTrack_inBounds _ h1
      · exact h1

theorem reportDropped_inBounds {d : Device} (r : DropReason) (e : QueueEntry) (h : InBounds d) :
    InBounds (reportDropped r e d) := by
  unfold reportDropped
  split
  · split
    · exact h
    · exact dropReport_inBounds _ _ h
  · exact h

theorem planTrack_inBounds {d : Device} (id : Byte) (h : InBounds d) : InBounds (planTrack id d) := by
  unfold planTrack
  split
  · exact resolveTrack_inBounds _ (modifyTrack_inBounds (fun _ e => e) h)
  · exact h

theorem replanTrack_inBounds {d : Device} (id : Byte) (h : InBounds d) : InBounds (replanTrack id d) := by
  unfold replanTrack
  split
  · split
    · exact planTrack_inBounds _ h
    · exact h
  · exact h

theorem replanAll_inBounds {d : Device} (h : InBounds d) : InBounds (replanAll d) :=
  forEach_keeps (fun id _ => replanTrack_inBounds id) _ h

theorem enterHorizon_inBounds {d : Device} (id : Byte) (h : InBounds d) : InBounds (enterHorizon id d) := by
  unfold enterHorizon
  split
  · split
    · exact modifyTrack_inBounds (fun _ e => e) h
    · exact planTrack_inBounds _ h
  · exact h

@[simp] theorem checkArmed_id (im : Image) (own : Nat) (now : Time) (c : NeighbourClaim) (tr : Track) :
    (checkArmed im own now c tr).id = tr.id := by
  unfold checkArmed
  (repeat' split) <;> rfl

theorem changeClaims_inBounds {d : Device} {l : List NeighbourClaim} (made : Option NeighbourClaim) (h : InBounds d)
    (hl : l.length ≤ 8) : InBounds (changeClaims l made d) := by
  have h1 : InBounds { d with crs := { d.crs with claims := l } } :=
    { h.mono (d' := d) (by simp) with claims := hl }
  unfold changeClaims
  split
  · refine resolveAll_inBounds (h1.mono ?_)
    simp [Function.comp_def]
  · exact resolveAll_inBounds h1

theorem removeClaim_inBounds {d : Device} (key : ClaimKey) (h : InBounds d) : InBounds (removeClaim key d) := by
  unfold removeClaim
  split
  · exact changeClaims_inBounds _ h ((List.length_filter_le _ _).trans h.claims)
  · exact h

/-- A fold that at each element keeps the best so far or takes the element ends in one of the list. -/
theorem foldl_best_mem {α : Type} {f : Option α → α → Option α} (hf : ∀ b x, f b x = b ∨ f b x = some x) (l : List α)
    {y : α} (h : l.foldl f none = some y) : y ∈ l := by
  have key : ∀ b, l.foldl f b = some y → b = some y ∨ y ∈ l := by
    clear h
    induction l with
    | nil => exact fun b hb => .inl hb
    | cons x rest ih =>
      intro b hb
      rcases ih _ hb with hfx | hrest
      · rcases hf b x with e | e
        · exact .inl (e.symm.trans hfx)
        · have hx : x = y := Option.some.inj (e.symm.trans hfx)
          exact .inr (by simp [hx])
      · exact .inr (List.mem_cons_of_mem _ hrest)
  exact (key none h).resolve_left (by simp)

/-- R136: the entry given up is one of the list. -/
theorem soonestClaim_mem {l : List NeighbourClaim} {c : NeighbourClaim} (h : soonestClaim l = some c) : c ∈ l :=
  foldl_best_mem (fun b x => by cases b with | none => simp | some b => simp only []; split <;> simp) l h

/-- R135, R136: a newcomer to a full list takes the place of the entry given up. -/
theorem takeClaim_inBounds {d : Device} (key : ClaimKey) (f : ClaimFrame) (centre : Time) (h : InBounds d) :
    InBounds (takeClaim key f centre d) := by
  have hr := removeClaim_inBounds key h
  have h1 : InBounds { d with crs := { d.crs with nextJoin := d.crs.nextJoin + 1 } } := h.mono (by simp)
  have hc := h.claims
  simp only [takeClaim]
  split
  · exact h
  split
  · exact hr
  split
  · exact hr
  split
  · exact hr
  split
  · exact changeClaims_inBounds _ h (by simpa using hc)
  split
  · exact changeClaims_inBounds _ h1 (by simp; omega)
  split
  · exact h
  split
  · rename_i soonest hs _
    have hlt : (d.crs.claims.filter fun c => c.key != soonest.key).length < d.crs.claims.length :=
      List.length_filter_lt_length_iff_exists.2 ⟨soonest, soonestClaim_mem hs, by simp⟩
    exact changeClaims_inBounds _ h1 (by simp; omega)
  · exact h

/-! ### Pulses.lean -/

@[simp] theorem modifyBurstFrame_bursts_length (id : Byte) (k : Nat) (f : BurstFrame → BurstFrame) (d : Device) :
    (modifyBurstFrame id k f d).cdu.bursts.length = d.cdu.bursts.length := by simp [modifyBurstFrame]

@[simp] theorem trimBurst_bursts_length (id : Byte) (i : Int) (d : Device) :
    (trimBurst id i d).cdu.bursts.length = d.cdu.bursts.length := by simp [trimBurst]

theorem trimBurst_inBounds {d : Device} (id : Byte) (i : Int) (h : InBounds d) : InBounds (trimBurst id i d) :=
  h.mono (by simp)

theorem issuePulses_inBounds {d : Device} (h : InBounds d) : InBounds (issuePulses d) := by
  rcases issuePulses_cases d with e | ⟨b, rest, im, f, -, -, -, -, e⟩ <;> rw [e]
  · exact h
  · exact modifyTrack_inBounds (fun _ e => e) (h.mono (by simp))

theorem settleFrame_inBounds {d : Device} (id : Byte) (k : Nat) (o : CameraOutcome) (h : InBounds d) :
    InBounds (settleFrame id k o d) := modifyFrame_inBounds _ _ _ (h.mono (by simp))

theorem dropIfSettled_inBounds {d : Device} (id : Byte) (h : InBounds d) : InBounds (dropIfSettled id d) := by
  unfold dropIfSettled
  split
  · exact dropBurst_inBounds _ h
  · exact h

theorem settleReady_inBounds {d : Device} (o : Outstanding) (h : InBounds d) : InBounds (settleReady o d) := by
  have h2 := (settleFrame_inBounds o.trackId o.frame (readyOutcome o d.clock) h).cdu
    (cdu := { (settleFrame o.trackId o.frame (readyOutcome o d.clock) d).cdu with
      timeouts := 0, outstanding := none }) le_rfl
  exact closeIfSettled_inBounds _ ((dropIfSettled_inBounds _ h2).cdu le_rfl)

theorem takeReady_inBounds {d : Device} (h : InBounds d) : InBounds (takeReady d) := by
  unfold takeReady
  split
  · split
    · exact h.mono (by simp)
    · exact h
  · split
    · split
      · exact h
      · exact issuePulses_inBounds (settleReady_inBounds _ h)
    · exact h
  all_goals exact h

theorem startBoot_inBounds {d : Device} (im : Image) (h : InBounds d) : InBounds (startBoot im d) := by
  simp only [startBoot]
  split
  · exact takeReady_inBounds (h.mono (by simp))
  · exact h.mono (by simp)

theorem cancelBurst_inBounds {d : Device} (b : Burst) (h : InBounds d) : InBounds (cancelBurst b d) := by
  have h1 : InBounds (dropBurst b.trackId (cancelFrames b d)) :=
    dropBurst_inBounds _ (forEach_keeps (fun (f : BurstFrame) _ => settleFrame_inBounds b.trackId f.index .cancelled) _ h)
  simp only [cancelBurst]
  split
  · exact h1.mono (by simp)
  · exact h1

theorem closeBursts_inBounds {d : Device} (l : List Burst) (h : InBounds d) :
    InBounds (forEach l (fun b => closeIfSettled b.trackId) d) :=
  forEach_keeps (fun (b : Burst) _ => closeIfSettled_inBounds b.trackId) _ h

theorem lockCamera_inBounds {d : Device} (h : InBounds d) : InBounds (lockCamera d) :=
  closeBursts_inBounds _ ((forEach_keeps (fun (b : Burst) _ => cancelBurst_inBounds b) d.cdu.bursts h).mono (by simp))

theorem timeOut_inBounds {d : Device} (o : Outstanding) (h : InBounds d) : InBounds (timeOut o d) := by
  simp only [timeOut]
  generalize List.filter _ _ ++ List.filter _ _ = leaving
  have h4 : InBounds (forEach leaving (fun b => closeIfSettled b.trackId) (forEach leaving cancelBurst
      { settleFrame o.trackId o.frame .timeout d with
        cdu := { (settleFrame o.trackId o.frame .timeout d).cdu with outstanding := none } })) :=
    closeBursts_inBounds _ (forEach_keeps (fun (b : Burst) _ => cancelBurst_inBounds b) _
      ((settleFrame_inBounds _ _ _ h).cdu le_rfl))
  split
  · exact lockCamera_inBounds (h4.cdu le_rfl)
  · exact (h4.cdu le_rfl).cdu le_rfl

theorem bootExpires_inBounds {d : Device} (im : Image) (h : InBounds d) : InBounds (bootExpires im d) := by
  simp only [bootExpires]
  split
  · exact lockCamera_inBounds (h.cdu le_rfl)
  · exact h.cdu le_rfl

theorem clearCamera_inBounds {d : Device} (h : InBounds d) : InBounds (clearCamera d) := by
  unfold clearCamera
  split
  · exact startBoot_inBounds _ h
  · exact h

theorem reportFlash_inBounds {d : Device} (id : Byte) (k : Nat) (v : FlashValue) (fired : Bool) (h : InBounds d) :
    InBounds (reportFlash id k v fired d) := closeIfSettled_inBounds _ (modifyFrame_inBounds _ _ _ h)

theorem decideOwnFlash_inBounds {d : Device} (im : Image) (x : FlashDecision) (h : InBounds d) :
    InBounds (decideOwnFlash im x d) := by
  unfold decideOwnFlash
  split
  · exact reportFlash_inBounds _ _ _ _ (h.mono (by simp))
  · exact reportFlash_inBounds _ _ _ _ h

theorem decideFlash_inBounds {d : Device} (im : Image) (x : FlashDecision) (h : InBounds d) :
    InBounds (decideFlash im x d) := by
  have hc : InBounds (loseCoLit x.trackId d) := modifyTrack_inBounds (fun _ e => e) h
  unfold decideFlash
  split
  · split
    · refine reportFlash_inBounds _ _ _ _ ?_
      split
      · exact h
      · exact hc
    · exact decideOwnFlash_inBounds _ _ hc
  · split
    · exact decideOwnFlash_inBounds _ _ h
    · exact reportFlash_inBounds _ _ _ _ h

theorem reportReturn_inBounds {d : Device} (a : AwaitedReturn) (m : Bool) (h : InBounds d) :
    InBounds (reportReturn a.trackId a.frame m (removeAwaited a d)) :=
  closeIfSettled_inBounds _ (modifyFrame_inBounds _ _ _ (h.mono (by simp)))

theorem takeReturn_inBounds {d : Device} (h : InBounds d) : InBounds (takeReturn d) := by
  simp only [takeReturn]
  split
  · exact h
  · rename_i a _
    have h1 := reportReturn_inBounds a false h
    split
    · exact h1.mono (by simp)
    · exact h1

theorem misfire_inBounds {d : Device} (a : AwaitedReturn) (h : InBounds d) : InBounds (misfire a d) := by
  have h1 := reportReturn_inBounds a true h
  simp only [misfire]
  split
  · exact h1
  · split
    · exact replanAll_inBounds (h1.mono (by simp))
    · exact h1.mono (by simp)

theorem clearFlash_inBounds {d : Device} (h : InBounds d) : InBounds (clearFlash d) := by
  unfold clearFlash
  split
  · exact replanAll_inBounds (h.mono (by simp))
  · exact h

/-! ### Association.lean -/

theorem repredict_inBounds {d : Device} (id : Byte) (h : InBounds d) : InBounds (repredict id d) := by
  unfold repredict
  split
  · rename_i tr im hfound _
    obtain ⟨hmem, hid⟩ := findTrack_some hfound
    split
    · exact h
    · simp only []
      split
      · exact closeTrack_inBounds _ _ _ (modifyTrack_inBounds (fun _ _ => hid) h)
      · have h1 : ∀ x : Track, x.id = tr.id → InBounds (placeTrack x d) := fun x hx =>
          placeTrack_inBounds h (hx ▸ List.mem_map_of_mem hmem)
        split
        · exact enterHorizon_inBounds _ (h1 _ rfl)
        · exact planTrack_inBounds _ (h1 _ rfl)
        · exact h1 _ rfl
        · exact h1 _ rfl
  · exact h

theorem trimTrack_inBounds {d : Device} (id : Byte) (h : InBounds d) : InBounds (trimTrack id d) := by
  unfold trimTrack
  split
  · rename_i tr im hfound _
    obtain ⟨hmem, hid⟩ := findTrack_some hfound
    split
    · have h1 : ∀ x : Track, x.id = tr.id → InBounds (placeTrack x d) := fun x hx =>
        placeTrack_inBounds h (hx ▸ List.mem_map_of_mem hmem)
      exact issuePulses_inBounds (trimBurst_inBounds _ _ (h1 _ rfl))
    · exact h
  · exact h

/-- R82, R96: a newcomer to a list of fewer than 16 takes a free id. -/
theorem createTrack_inBounds {d : Device} (im : Image) (tr : Track) (h : InBounds d) (hroom : d.htk.tracks.length < 16) :
    InBounds (createTrack im tr d) := by
  let id := freeId (d.htk.tracks.map (·.id)) 16 d.htk.nextId
  let entry : Track :=
    { tr with id := id, created := d.htk.nextCreated, missDeadline := some (missTime im tr.pred) }
  have hperm := insertTrack_ids_perm entry d.htk.tracks
  refine enterHorizon_inBounds _ { h.mono (d' := d) (by simp) with
    tracks := ?_, distinct := hperm.nodup_iff.2 (List.nodup_cons.2 ⟨freeId_fresh _ (by simpa using hroom), h.distinct⟩) }
  rw [hperm.length_eq]
  simpa using hroom

/-- R97: the victim is a live track. -/
theorem trackVictim_mem {tr v : Track} {l : List Track} (h : trackVictim tr l = some v) : v ∈ l :=
  List.mem_of_mem_filter
    (foldl_best_mem (fun b x => by cases b with | none => simp | some b => simp only []; split <;> simp) _ h)

theorem closeTrack_tracks {o : TrackOutcome} {r : Reason} {id : Byte} {d : Device} {tr : Track}
    (h : findTrack d id = some tr) : (closeTrack o r id d).htk.tracks = d.htk.tracks.filter fun x => x.id != id := by
  rw [closeTrack_found h]
  split <;> simp

/-- R97: a live track closed leaves a place. -/
theorem closeTrack_makesRoom {o : TrackOutcome} {r : Reason} {v : Track} {d : Device} (hv : v ∈ d.htk.tracks) :
    (closeTrack o r v.id d).htk.tracks.length < d.htk.tracks.length := by
  obtain ⟨tr, hfound⟩ : ∃ tr, findTrack d v.id = some tr := by
    refine Option.isSome_iff_exists.1 (List.find?_isSome.2 ⟨v, hv, by simp⟩)
  rw [closeTrack_tracks hfound]
  exact List.length_filter_lt_length_iff_exists.2 ⟨v, hv, by simp⟩

theorem newTrack_inBounds {d : Device} (side : Side) (l : List Sighting) (v : Option VerifyEntry) (h : InBounds d) :
    InBounds (newTrack side l v d) := by
  simp only [newTrack]
  split
  · split
    · exact { h.mono (d' := d) (by simp) with tooFar := Nat.min_le_left _ _ }
    · split
      · exact createTrack_inBounds _ _ h ‹_›
      · split
        · rename_i victim hv
          have hlt := closeTrack_makesRoom (o := .dropped) (r := .evicted) (trackVictim_mem hv)
          have htr : d.htk.tracks.length ≤ 16 := by simpa using h.tracks
          exact createTrack_inBounds _ _ (closeTrack_inBounds _ _ _ h) (hlt.trans_le htr)
        · exact offerCapture_inBounds _ h
  · exact h

theorem takeSighting_inBounds {d : Device} (x : Sighting) (h : InBounds d) : InBounds (takeSighting x d) := by
  unfold takeSighting
  split
  · exact h
  · split
    · exact newTrack_inBounds _ _ _ h
    · rename_i tr _ _
      have h1 : InBounds (modifyTrack tr.id (storeSighting x) d) := modifyTrack_inBounds (fun _ e => e) h
      simp only []
      split
      · exact h1
      · exact repredict_inBounds _ h1

theorem takeVerify_inBounds {d : Device} (track : Nat) (side : Side) (e : VerifyEntry) (h : InBounds d) :
    InBounds (takeVerify track side e d) := by
  unfold takeVerify
  split
  · exact h
  · split
    · exact newTrack_inBounds _ _ _ h
    · rename_i tr _ _
      have h1 : InBounds (modifyTrack tr.id (storeVerify e) d) := modifyTrack_inBounds (fun _ e => e) h
      simp only []
      split
      · exact repredict_inBounds _ h1
      · exact repredict_inBounds _ h1
      · exact trimTrack_inBounds _ h1
      · exact h1

end Sys2Proof.Machine

namespace Sys2Proof.Machine

/-! ### Curtains.lean -/

theorem emitApproaching_inBounds {d : Device} (p : Fin 2) (pc : PairConfig) (t1 t2 : Time) (v : Nat × Bool)
    (band : Option (Nat × Nat) × Bool) (seq : Byte) (forced : Bool) (h : InBounds d) :
    InBounds (emitApproaching p pc t1 t2 v band seq forced d) := by
  unfold emitApproaching
  split
  · exact requestSighting_inBounds _ (takeVerify_inBounds _ _ _ h)
  · exact offerSighting_inBounds _ (requestSighting_inBounds _ h)

theorem emitDeparting_inBounds {d : Device} (p : Fin 2) (t1 t2 : Time) (v : Nat × Bool) (forced : Bool)
    (h : InBounds d) : InBounds (emitDeparting p t1 t2 v forced d) := by
  unfold emitDeparting
  split
  · exact h
  · exact offerSighting_inBounds _ h

theorem emitOrphan_inBounds {d : Device} (p : Fin 2) (t1 : Time) (forced : Bool) (h : InBounds d) :
    InBounds (emitOrphan p t1 forced d) := by
  unfold emitOrphan
  split
  · exact h
  · exact offerSighting_inBounds _ h

theorem orphanInHand_inBounds {d : Device} (p : Fin 2) (h : InBounds d) : InBounds (orphanInHand p d) := by
  unfold orphanInHand
  split
  · exact emitOrphan_inBounds _ _ _ h
  · exact h

theorem orphanExpires_inBounds {d : Device} (p : Fin 2) (h : InBounds d) : InBounds (orphanExpires p d) := by
  unfold orphanExpires
  split
  · split
    · exact h.ciu
    · exact (orphanInHand_inBounds _ h).ciu
  · split
    · exact h.ciu
    · exact h.ciu
  all_goals exact h

theorem outerBreak_inBounds {d : Device} (p : Fin 2) (pc : PairConfig) (t : Time) (h : InBounds d) :
    InBounds (outerBreak p pc t d) := by
  unfold outerBreak
  split
  · exact h.ciu
  · exact (orphanInHand_inBounds _ h).ciu
  · split
    · exact (emitOrphan_inBounds _ _ _ h).ciu
    · exact h.ciu
  · split
    · exact h.ciu
    · exact h

theorem innerBreak_inBounds {d : Device} (p : Fin 2) (pc : PairConfig) (t : Time) (h : InBounds d) :
    InBounds (innerBreak p pc t d) := by
  unfold innerBreak
  split
  · exact h.ciu
  · exact h.ciu
  · exact h
  · split
    · exact h.ciu
    · exact h

theorem outerEnd_inBounds {d : Device} (p : Fin 2) (pc : PairConfig) (h : InBounds d) : InBounds (outerEnd p pc d) := by
  simp only [outerEnd]
  split
  · exact (emitDeparting_inBounds _ _ _ _ _ h).ciu
  · exact h

theorem afterPassage_inBounds {d : Device} (p : Fin 2) (pc : PairConfig) (o : Option Time) (h : InBounds d) :
    InBounds (afterPassage p pc o d) := by
  unfold afterPassage
  split
  · exact h.ciu
  · simp only []
    split
    · exact orphanExpires_inBounds _ h.ciu
    · exact h.ciu

theorem innerEnd_inBounds {d : Device} (p : Fin 2) (pc : PairConfig) (beams masked : Byte) (h : InBounds d) :
    InBounds (innerEnd p pc beams masked d) := by
  simp only [innerEnd]
  split
  · exact afterPassage_inBounds _ _ _ (emitApproaching_inBounds _ _ _ _ _ _ _ _ h).ciu
  · exact h

theorem breakIgnored_inBounds {d : Device} (c : Fin 4) (h : InBounds d) : InBounds (breakIgnored c d) := by
  simp only [breakIgnored]
  split
  · exact h
  · split
    · exact (orphanInHand_inBounds _ h).ciu
    · exact h.ciu
    · exact h

theorem judgeBreak_inBounds {d : Device} (c : Fin 4) (pc : PairConfig) (h : InBounds d) :
    InBounds (judgeBreak c pc d) := by
  cases hb : (curtain d c).breakState with
  | clear =>
    rw [judgeBreak_clear hb]
    split
    · exact h.ciu
    · exact h
  | pending =>
    rw [judgeBreak_pending hb]
    split
    · exact h
    · exact breakIgnored_inBounds _ h.ciu
  | broken =>
    rw [judgeBreak_broken hb]
    split
    · exact h
    · split
      · exact outerEnd_inBounds _ _ h.ciu
      · exact innerEnd_inBounds _ _ _ _ h.ciu

theorem judgeDead_inBounds {d : Device} (c : Fin 4) (m : Nat) (h : InBounds d) : InBounds (judgeDead c m d) := by
  simp only [judgeDead_eq]
  split
  · exact h.ciu.raise _
  · exact h.ciu

theorem curtainChanged_inBounds {d : Device} (c : Fin 4) (h : InBounds d) : InBounds (curtainChanged c d) := by
  unfold curtainChanged
  split
  · exact h
  · exact judgeBreak_inBounds _ _ (judgeDead_inBounds _ _ h.ciu)

theorem rawChange_inBounds {d : Device} (c : Fin 4) (i : Fin 8) (l : Bool) (h : InBounds d) :
    InBounds (rawChange c i l d) := by
  simp only [rawChange]
  split
  · exact h
  · split
    · exact curtainChanged_inBounds _ h.ciu
    · exact h.ciu

theorem stuckExpires_inBounds {d : Device} (c : Fin 4) (i : Fin 8) (h : InBounds d) :
    InBounds (stuckExpires c i d) := by
  unfold stuckExpires
  split
  · exact curtainChanged_inBounds _ (h.ciu.raise _)
  · exact h

theorem unmaskExpires_inBounds {d : Device} (c : Fin 4) (i : Fin 8) (h : InBounds d) :
    InBounds (unmaskExpires c i d) := by
  unfold unmaskExpires
  split
  · exact curtainChanged_inBounds _ (h.ciu.raise _)
  · exact h

theorem validationExpires_inBounds {d : Device} (c : Fin 4) (h : InBounds d) : InBounds (validationExpires c d) := by
  simp only [validationExpires]
  split
  · split
    · exact outerBreak_inBounds _ _ _ h.ciu
    · exact innerBreak_inBounds _ _ _ h.ciu
  · exact h

theorem forceCurtain_inBounds {d : Device} (c : Fin 4) (mask pattern : Byte) (h : InBounds d) :
    InBounds (forceCurtain c mask pattern d) := by
  simp only [forceCurtain]
  split
  · exact curtainChanged_inBounds _ h.ciu.ciu
  · exact curtainChanged_inBounds _ h.ciu

theorem startEvaluation_inBounds {d : Device} (h : InBounds d) : InBounds (startEvaluation d) := by
  refine forEach_keeps (fun c x hx => ?_) _ h
  unfold evaluateCurtain
  split
  · exact curtainChanged_inBounds _ hx.ciu
  · exact hx

/-! ### Peers.lean and Line.lean -/

theorem takePresence_inBounds {d : Device} (p : Nat) (f : PresenceFrame) (mark : Time) (h : InBounds d) :
    InBounds (takePresence p f mark d) := by
  have h1 : InBounds (setPeer p (presentEntry f mark) d) := h.mono (by simp)
  simp only [takePresence]
  split
  · exact h1.raise _
  · exact h1

theorem staleExpires_inBounds {d : Device} (p : Nat) (h : InBounds d) : InBounds (staleExpires p d) := by
  unfold staleExpires
  split
  · exact h.mono (by simp)
  · exact h

theorem lostExpires_inBounds {d : Device} (p : Nat) (h : InBounds d) : InBounds (lostExpires p d) := by
  unfold lostExpires
  split
  · exact (h.mono (by simp)).raise _
  · exact h

theorem setLinePair_inBounds {d : Device} (p : LinePair) {x : PairState} (h : InBounds d)
    (hx : x.quality = (linePair d p).quality) : InBounds (setLinePair p x d) := by
  cases p
  · exact h.liu (by simp) (hx.trans_le h.qualityA) h.qualityB h.collisions
  · exact h.liu (by simp) h.qualityA (hx.trans_le h.qualityB) h.collisions

theorem beginBusy_inBounds {d : Device} (h : InBounds d) : InBounds (beginBusy d) := h.mono (by simp [beginBusy])

theorem transmitterWaits_inBounds {d : Device} (h : InBounds d) : InBounds (transmitterWaits d) :=
  h.mono (by simp [transmitterWaits])

theorem lineActive_inBounds {d : Device} (h : InBounds d) : InBounds (lineActive d) := by
  simp only [lineActive]
  split
  · exact h.mono (by simp)
  · split
    · exact transmitterWaits_inBounds (beginBusy_inBounds h)
    · exact beginBusy_inBounds h

theorem takeTransition_inBounds {d : Device} (p : LinePair) (heard : List LineSymbol) (h : InBounds d) :
    InBounds (takeTransition p heard d) := by
  simp only [takeTransition]
  split
  · exact h
  · split
    · exact setLinePair_inBounds p h rfl
    · exact setLinePair_inBounds p (lineActive_inBounds (setLinePair_inBounds p h rfl)) rfl

theorem takeQuiet_inBounds {d : Device} (p : LinePair) (h : InBounds d) : InBounds (takeQuiet p d) := by
  unfold takeQuiet
  split
  · exact setLinePair_inBounds p h rfl
  · exact h

/-- R40: a quality counter stays within 0 to 255. -/
theorem nextQuality_le {q : Nat} (own other : Judgement) (h : q ≤ 255) : nextQuality own other q ≤ 255 := by
  unfold nextQuality
  split <;> omega

theorem handOn_inBounds {d : Device} (station : Nat) (mark : Time) (frame : ReceivedFrame) (h : InBounds d) :
    InBounds (handOn station mark frame d) := by
  unfold handOn
  split
  · exact takePresence_inBounds _ _ _ h
  · split
    · exact h
    · split
      · exact takeSighting_inBounds _ h
      · exact h
  · split
    · exact takeClaim_inBounds _ _ _ h
    · exact h
  · split
    · exact removeClaim_inBounds _ h
    · exact h

theorem handOnOwn_inBounds {d : Device} (mark : Time) (frame : ReceivedFrame) (h : InBounds d) :
    InBounds (handOnOwn mark frame d) := by
  unfold handOnOwn
  split
  · exact modifyTrack_inBounds (fun _ e => e) h
  all_goals exact h

theorem enterSilent_inBounds {d : Device} (h : InBounds d) : InBounds (enterSilent d) :=
  forEach_keeps (fun e _ => reportDropped_inBounds .flushed e) _ (h.mono (by simp [silenceTransmitter]))

theorem takeClash_inBounds {d : Device} (h : InBounds d) : InBounds (takeClash d) := by
  unfold takeClash
  split
  · exact enterSilent_inBounds (h.raise _)
  · exact enterSilent_inBounds (h.raise _)
  · exact h.raise _
  all_goals exact h

theorem dispatchFrame_inBounds {d : Device} (mark : Time) (body : List Byte) (h : InBounds d) :
    InBounds (dispatchFrame mark body d) := by
  unfold dispatchFrame
  split
  · split
    · split
      · exact handOnOwn_inBounds _ _ h
      · exact h
    · exact takeClash_inBounds h
  · split
    · exact handOn_inBounds _ _ _ h
    · exact h

theorem takeIdle_inBounds {d : Device} (h : InBounds d) : InBounds (takeIdle d) := by
  simp only [takeIdle]
  split
  · exact h.mono (by simp [transmitterDefers])
  · exact h.mono (by simp)

theorem judgePreference_inBounds {d : Device} (h : InBounds d) : InBounds (judgePreference d) := by
  simp only [judgePreference]
  split
  · exact h.mono (by simp)
  · exact h

theorem idleInstant_inBounds {d : Device} (h : InBounds d) : InBounds (idleInstant d) := by
  have h1 := takeIdle_inBounds h
  have h2 : ∀ a b, InBounds (judgePreference (updateQuality a b (takeIdle d))) := fun a b =>
    judgePreference_inBounds (h1.liu (by simp) (nextQuality_le _ _ h1.qualityA) (nextQuality_le _ _ h1.qualityB)
      h1.collisions)
  simp only [idleInstant]
  split
  · exact dispatchFrame_inBounds _ _ (h2 _ _)
  · exact h2 _ _

theorem quietExpires_inBounds {d : Device} (h : InBounds d) : InBounds (quietExpires d) := by
  unfold quietExpires
  split
  · exact idleInstant_inBounds h
  · exact h

theorem takeJabber_inBounds {d : Device} (p : LinePair) (h : InBounds d) : InBounds (takeJabber p d) := by
  rcases takeJabber_cases p d with e | ⟨-, -, ⟨-, e⟩ | ⟨-, e⟩⟩ <;> rw [e]
  · exact h
  · exact idleInstant_inBounds (setLinePair_inBounds p h rfl)
  · exact setLinePair_inBounds p h rfl

theorem startFrame_inBounds {d : Device} (e : QueueEntry) (body : List Byte) (h : InBounds d) :
    InBounds (startFrame e body d) := by
  refine beginBusy_inBounds (modifyEntry_inBounds _ _ (h.liu (by simp) h.qualityA h.qualityB ?_))
  dsimp only
  split
  · exact h.collisions
  · omega

theorem offerHead_inBounds (n : Nat) {d : Device} (h : InBounds d) : InBounds (offerHead n d) := by
  induction n generalizing d with
  | zero => exact h
  | succ n ih =>
    unfold offerHead
    split
    · exact h
    · rename_i e _ _
      have h1 := removeEntry_inBounds e.order h
      split
      · split
        · exact startFrame_inBounds _ _ h
        · exact ih h1
        · exact ih (reportDropped_inBounds _ _ h1)
      · exact h

theorem takeSlotEnd_inBounds {d : Device} (h : InBounds d) : InBounds (takeSlotEnd d) := by
  unfold takeSlotEnd
  split
  · exact offerHead_inBounds _ h
  · exact h

theorem entryExpires_inBounds {d : Device} (order : Nat) (h : InBounds d) : InBounds (entryExpires order d) := by
  unfold entryExpires
  split
  · split
    · exact reportDropped_inBounds _ _ (removeEntry_inBounds _ h)
    · exact h
  · exact h

theorem collisionOutcome_inBounds {d : Device} (order : Nat) (h : InBounds d) :
    InBounds (collisionOutcome order d) := by
  unfold collisionOutcome
  split
  · exact h
  · split
    · exact removeEntry_inBounds _ h
    · exact entryExpires_inBounds _ (modifyEntry_inBounds _ _ h)

/-- R34: the eighth collision clears the count. -/
theorem takeCollision_inBounds {d : Device} (h : InBounds d) : InBounds (takeCollision d) := by
  simp only [takeCollision]
  split
  · exact h
  · rename_i order _
    split
    · have h1 : InBounds (raise .lineContention { cutFrame order d with
          liu := { (cutFrame order d).liu with collisions := 0, collided := none } }) :=
        h.mono (by simp [cutFrame, transmitterWaits])
      simp only [giveUp]
      split
      · exact h1
      · exact reportDropped_inBounds _ _ (removeEntry_inBounds _ h1)
    · rename_i hlt
      exact collisionOutcome_inBounds _ (h.liu (by simp) h.qualityA h.qualityB (by omega))

theorem takeMismatch_inBounds {d : Device} (p : LinePair) (h : InBounds d) : InBounds (takeMismatch p d) := by
  simp only [takeMismatch]
  split
  · have h1 : InBounds (setLinePair p { linePair d p with readbackMatch := false } d) := setLinePair_inBounds p h rfl
    split
    · exact h1
    · exact takeCollision_inBounds h1
  · exact h

theorem takeSent_inBounds {d : Device} (h : InBounds d) : InBounds (takeSent d) := by
  unfold takeSent
  split
  · split
    · exact h
    · have h1 : InBounds (transmitterWaits { d with liu := { d.liu with
          driven := none, ownDrive := .sent, frameInHand := none, collisions := 0, collided := none } }) :=
        transmitterWaits_inBounds (h.mono (by simp))
      simp only []
      split
      · exact modifyEntry_inBounds _ _ h1
      · exact removeEntry_inBounds _ h1
  · exact h

theorem presenceExpires_inBounds {d : Device} (h : InBounds d) : InBounds (presenceExpires d) := by
  unfold presenceExpires
  split
  · exact requestPresence_inBounds (h.mono (by simp))
  · exact h

end Sys2Proof.Machine

namespace Sys2Proof.Machine

/-! ### Station.lean -/

/-- Every block at its reset values, with a record queue in bounds. -/
theorem resetBlocks_inBounds {r : Rqs} (d : Device) (hr : r.records.length ≤ 32) :
    InBounds { resetBlocks d with rqs := r } where
  records := hr
  queue := by simp [resetBlocks, Fx.reset]
  tracks := by simp [resetBlocks, Htk.reset]
  distinct := by simp [resetBlocks, Htk.reset]
  claims := by simp [resetBlocks, Crs.reset]
  bursts := by simp [resetBlocks, Cdu.reset]
  qualityA := by simp [resetBlocks, Liu.reset, PairState.reset]
  qualityB := by simp [resetBlocks, Liu.reset, PairState.reset]
  collisions := by simp [resetBlocks, Liu.reset]
  tooFar := by simp [resetBlocks, Htk.reset]

theorem enterLoading_inBounds {d : Device} (h : InBounds d) : InBounds (enterLoading d) := h.mono (by simp)

theorem refreshIndicator_inBounds {d : Device} (h : InBounds d) : InBounds (refreshIndicator d) := h.mono (by simp)

theorem powerOnReset_inBounds (stn : BitVec 5) (role : Role) (d : Device) : InBounds (powerOnReset stn role d) :=
  refreshIndicator_inBounds (enterLoading_inBounds (resetBlocks_inBounds _ (by simp [Rqs.reset])))

theorem heldReset_inBounds (d : Device) : InBounds (heldReset d) :=
  resetBlocks_inBounds (r := Rqs.reset 0#24 0#15) { d with pins := { d.pins with rstActive := true } } (by simp [Rqs.reset])

theorem enterListening_inBounds {d : Device} (im : Image) (h : InBounds d) : InBounds (enterListening im d) := by
  simp only [enterListening]
  generalize hd1 : ({ d with cfl := _ } : Device) = d1
  have h1 : InBounds d1 := hd1 ▸ h.mono (by simp)
  have hw : InBounds (startWatching (startEvaluation d1)) :=
    (startEvaluation_inBounds h1).mono (by simp [startWatching])
  have h2 : InBounds (fixVerifySides im (startWatching (startEvaluation d1))) := hw.mono (by simp)
  split
  · exact startBoot_inBounds _ h2
  · exact h2

theorem usePage_inBounds {d : Device} (used : PageUsed) (page : List Byte) (h : InBounds d) :
    InBounds (usePage used page d) := by
  have h1 : InBounds { d with cfl := { d.cfl with pageUsed := used } } := h.mono (by simp)
  refine enterListening_inBounds _ ?_
  split
  · exact h1.raise _
  · exact h1

theorem pageComplete_inBounds {d : Device} (page : List Byte) (camRdy : Bool) (h : InBounds d) :
    InBounds (pageComplete page camRdy d) := by
  have h1 : InBounds { d with pins := { d.pins with camRdy := camRdy }, cfl := { d.cfl with reading := none } } :=
    h.mono (by simp)
  simp only [pageComplete]
  split
  · exact h
  · split
    · split
      · exact usePage_inBounds _ _ h1
      · exact h1.mono (by simp)
    · split
      · exact usePage_inBounds _ _ h1
      · exact h1.mono (by simp)
    all_goals exact h1

theorem commonStart_inBounds {d : Device} (h : InBounds d) : InBounds (commonStart d) := h.mono (by simp)

theorem phaseExpires_inBounds {d : Device} (h : InBounds d) : InBounds (phaseExpires d) := h.mono (by simp)

theorem listeningExpires_inBounds {d : Device} (h : InBounds d) : InBounds (listeningExpires d) := by
  unfold listeningExpires
  split
  · exact requestPresence_inBounds (h.mono (by simp))
  · exact h

/-! ### Service.lean -/

theorem InBounds.sendReply {d : Device} (command : Byte) (contents : List Byte) (h : InBounds d) :
    InBounds (sendReply command contents d) := h.mono (by simp [Machine.sendReply])

theorem takeRecordNow_inBounds {d : Device} (h : InBounds d) : InBounds (takeRecordNow d) := by
  unfold takeRecordNow
  split
  · exact h.sendReply _ _
  · rename_i r rest hr
    refine InBounds.sendReply _ _ (h.mono ?_)
    simp [hr]

theorem takeForce_inBounds {d : Device} (c : Fin 4) (mask pattern : Byte) (h : InBounds d) :
    InBounds (takeForce c mask pattern d) := by
  unfold takeForce
  split
  · exact (forceCurtain_inBounds _ _ _ h).sendReply _ _
  · exact h.sendReply _ _

theorem takeClear_inBounds {d : Device} (u : LockoutUnit) (h : InBounds d) : InBounds (takeClear u d) := by
  have h1 : InBounds (if namesCamera u then clearCamera d else d) := by
    split
    · exact clearCamera_inBounds h
    · exact h
  simp only [takeClear]
  split
  · exact (clearFlash_inBounds h1).sendReply _ _
  · exact h1.sendReply _ _

theorem takeCommand_inBounds {d : Device} (c : ServiceCommand) (h : InBounds d) : InBounds (takeCommand c d) := by
  cases c with
  | status => exact InBounds.sendReply _ _ (h.mono (by simp))
  | takeRecord => exact takeRecordNow_inBounds h
  | peekPeers => exact h.sendReply _ _
  | peekTracks => exact h.sendReply _ _
  | forceBeams k mask pattern => exact takeForce_inBounds _ _ _ h
  | clearLockout u => exact takeClear_inBounds _ h
  | restart => exact (enterLoading_inBounds (resetBlocks_inBounds _ (by simp [Rqs.reset]))).sendReply _ _

theorem judgeInHand_inBounds {d : Device} (bytes : List Byte) (h : InBounds d) : InBounds (judgeInHand bytes d) := by
  unfold judgeInHand
  split
  · unfold completeCommand
    split
    · exact takeCommand_inBounds _ h
    · exact h.mono (by simp)
    · exact h.raise _
  · exact h.raise _

theorem receiverTo_inBounds {d : Device} (r : Receiver) (bytes : List Byte) (h : InBounds d) :
    InBounds (receiverTo r bytes d) := h.mono (by simp [receiverTo])

theorem receiverIdle_inBounds {d : Device} (h : InBounds d) : InBounds (receiverIdle d) :=
  h.mono (by simp [receiverIdle])

theorem receiveByte_inBounds {d : Device} (bad : Bool) (b : Byte) (h : InBounds d) :
    InBounds (receiveByte bad b d) := by
  have discard : InBounds (receiverTo .discarding [] (raise .serviceError d)) := receiverTo_inBounds _ _ (h.raise _)
  unfold receiveByte
  split
  · split
    · exact receiverTo_inBounds _ _ h
    · exact discard
  · split
    · exact discard
    · split
      · exact judgeInHand_inBounds _ (receiverIdle_inBounds h)
      · exact receiverTo_inBounds _ _ h
  · exact receiverTo_inBounds _ _ h

theorem receiveCommand_inBounds {d : Device} (bytes : List Byte) (h : InBounds d) :
    InBounds (receiveCommand bytes d) := forEach_keeps (fun b _ => receiveByte_inBounds false b) _ h

theorem gapExpires_inBounds {d : Device} (h : InBounds d) : InBounds (gapExpires d) := by
  unfold gapExpires
  split
  · split
    · exact receiverIdle_inBounds (h.raise _)
    · exact receiverIdle_inBounds h
    · exact h
  · exact h

theorem samplePins_inBounds {d : Device} (c : ServiceCommand) (stn : BitVec 5) (role : Role) (camRdy : Bool)
    (h : InBounds d) : InBounds (samplePins c stn role camRdy d) := by
  unfold samplePins
  split
  · exact h.pins
  · exact h.pins
  · exact h

theorem replyEnds_inBounds {d : Device} (stn : BitVec 5) (role : Role) (camRdy : Bool) (h : InBounds d) :
    InBounds (replyEnds stn role camRdy d) := by
  unfold replyEnds
  split
  · exact h
  · exact h.mono (by simp)
  · exact takeCommand_inBounds _ (samplePins_inBounds _ _ _ _ (h.mono (by simp)))

/-! ### TrackCommands.lean -/

theorem horizonExpires_inBounds {d : Device} (id : Byte) (h : InBounds d) : InBounds (horizonExpires id d) := by
  unfold horizonExpires
  split
  · split
    · exact planTrack_inBounds _ h
    · exact h
  · exact h

theorem missExpires_inBounds {d : Device} (id : Byte) (h : InBounds d) : InBounds (missExpires id d) := by
  unfold missExpires
  split
  · split
    · exact closeTrack_inBounds _ _ _ h
    · exact h
  · exact h

theorem armPointExpires_inBounds {d : Device} (id : Byte) (h : InBounds d) : InBounds (armPointExpires id d) := by
  unfold armPointExpires
  split
  · split
    · exact armTrack_inBounds _ h
    · exact h
  · exact h

theorem claimExpires_inBounds {d : Device} (key : ClaimKey) (h : InBounds d) : InBounds (claimExpires key d) := by
  unfold claimExpires
  split
  · split
    · exact h
    · exact removeClaim_inBounds _ h
  · exact h

theorem orderEnds_inBounds {d : Device} (h : InBounds d) : InBounds (orderEnds d) := by
  unfold orderEnds
  split
  · exact issuePulses_inBounds (h.mono (by simp))
  · exact h

theorem bootDeadlineExpires_inBounds {d : Device} (h : InBounds d) : InBounds (bootDeadlineExpires d) := by
  unfold bootDeadlineExpires
  split
  · split
    · exact bootExpires_inBounds _ h
    · exact h
  · exact h

theorem readyArrives_inBounds {d : Device} (h : InBounds d) : InBounds (readyArrives d) :=
  takeReady_inBounds h.pins

theorem readyExpires_inBounds {d : Device} (h : InBounds d) : InBounds (readyExpires d) := by
  unfold readyExpires
  split
  · split
    · exact h
    · exact timeOut_inBounds _ h
  · exact h

theorem triggerEnds_inBounds {d : Device} (h : InBounds d) : InBounds (triggerEnds d) := by
  unfold triggerEnds
  split
  · exact issuePulses_inBounds (h.cdu le_rfl)
  · exact h

theorem flashReached_inBounds {d : Device} (id : Byte) (k : Nat) (h : InBounds d) :
    InBounds (flashReached id k d) := by
  unfold flashReached
  split
  · split
    · exact h
    · exact decideFlash_inBounds _ _ (h.mono (by simp))
  · exact h

theorem fireEnds_inBounds {d : Device} (h : InBounds d) : InBounds (fireEnds d) := h.mono (by simp)

theorem returnExpires_inBounds {d : Device} (id : Byte) (k : Nat) (h : InBounds d) :
    InBounds (returnExpires id k d) := by
  unfold returnExpires
  split
  · split
    · exact h
    · exact misfire_inBounds _ h
  · exact h

/-! ### Every step -/

/-- A command taken keeps the bounds when its effect does. -/
theorem taken_inBounds {t : Time} {f : Device → Device} {s s' : State} (hf : ∀ d, InBounds d → InBounds (f d))
    (h : InBounds s.dev) (he : taken t f s = .next s') : InBounds s'.dev := by
  cases he
  simp only []
  split
  · exact h
  · exact refreshIndicator_inBounds (hf _ (h.mono (by simp)))

/-- An effect that comes about in some parts only. -/
theorem InBounds.ite {d : Device} {c : Bool} {f : Device → Device} (hf : InBounds d → InBounds (f d))
    (h : InBounds d) : InBounds (if c then f d else d) := by
  split
  · exact hf h
  · exact h

theorem exec_inBounds (i : Instr) {s s' : State} (h : InBounds s.dev) (he : exec i s = .next s') : InBounds s'.dev := by
  cases i with
  | powerOn stn role =>
    cases he
    exact powerOnReset_inBounds stn role s.dev
  | rstNAsserted =>
    cases he
    exact heldReset_inBounds s.dev
  | rawLevelChange t c i l =>
    change execRawLevelChange t c i l s = .next s' at he
    unfold execRawLevelChange at he
    split at he
    · cases he
      exact h.ciu
    · exact taken_inBounds (fun _ => rawChange_inBounds c i l) h he
  | pageReadComplete t page camRdy => exact taken_inBounds (fun _ => pageComplete_inBounds page camRdy) h he
  | commonPageReadStart t => exact taken_inBounds (fun _ => commonStart_inBounds) h he
  | listeningDeadlineExpires t => exact taken_inBounds (fun _ => listeningExpires_inBounds) h he
  | indicatorPhaseExpires t => exact taken_inBounds (fun _ => phaseExpires_inBounds) h he
  | stuckDeadlineExpires t c i => exact taken_inBounds (fun _ => stuckExpires_inBounds c i) h he
  | unmaskDeadlineExpires t c i => exact taken_inBounds (fun _ => unmaskExpires_inBounds c i) h he
  | validationDeadlineExpires t c => exact taken_inBounds (fun _ => validationExpires_inBounds c) h he
  | orphanDeadlineExpires t p =>
    exact taken_inBounds (f := fun d => if due (sequencer d p).orphanDeadline d.clock then orphanExpires p d else d)
      (fun _ => InBounds.ite (orphanExpires_inBounds p)) h he
  | lineTransition t p heard => exact taken_inBounds (fun _ => takeTransition_inBounds p heard) h he
  | enterJabbering t p => exact taken_inBounds (fun _ => takeJabber_inBounds p) h he
  | pairQuiet t p => exact taken_inBounds (fun _ => takeQuiet_inBounds p) h he
  | quietDeadlineExpires t => exact taken_inBounds (fun _ => quietExpires_inBounds) h he
  | slotEnd t => exact taken_inBounds (fun _ => takeSlotEnd_inBounds) h he
  | readbackMismatch t p => exact taken_inBounds (fun _ => takeMismatch_inBounds p) h he
  | frameSent t => exact taken_inBounds (fun _ => takeSent_inBounds) h he
  | outboundEntryExpires t order => exact taken_inBounds (fun _ => entryExpires_inBounds order) h he
  | presenceDeadlineExpires t => exact taken_inBounds (fun _ => presenceExpires_inBounds) h he
  | staleDeadlineExpires t p => exact taken_inBounds (fun _ => staleExpires_inBounds p) h he
  | lostDeadlineExpires t p => exact taken_inBounds (fun _ => lostExpires_inBounds p) h he
  | planHorizonDeadlineExpires t id => exact taken_inBounds (fun _ => horizonExpires_inBounds id) h he
  | missDeadlineExpires t id => exact taken_inBounds (fun _ => missExpires_inBounds id) h he
  | armPointDeadlineExpires t id => exact taken_inBounds (fun _ => armPointExpires_inBounds id) h he
  | orderMessageEnd t => exact taken_inBounds (fun _ => orderEnds_inBounds) h he
  | neighbourClaimExpires t p id => exact taken_inBounds (fun _ => claimExpires_inBounds _) h he
  | bootDeadlineExpires t => exact taken_inBounds (fun _ => bootDeadlineExpires_inBounds) h he
  | ready t => exact taken_inBounds (fun _ => readyArrives_inBounds) h he
  | readyDeadlineExpires t => exact taken_inBounds (fun _ => readyExpires_inBounds) h he
  | pulseTimeReached t id k =>
    exact taken_inBounds (f := fun d => if pulseReached d id k then issuePulses d else d)
      (fun _ => InBounds.ite issuePulses_inBounds) h he
  | issuePulse t => exact taken_inBounds (fun _ => issuePulses_inBounds) h he
  | triggerEnd t => exact taken_inBounds (fun _ => triggerEnds_inBounds) h he
  | flashInstant t id k => exact taken_inBounds (fun _ => flashReached_inBounds id k) h he
  | flashFireEnd t => exact taken_inBounds (fun _ => fireEnds_inBounds) h he
  | flashReturn t => exact taken_inBounds (fun _ => takeReturn_inBounds) h he
  | returnDeadlineExpires t id k => exact taken_inBounds (fun _ => returnExpires_inBounds id k) h he
  | status t => exact taken_inBounds (fun _ => receiveCommand_inBounds _) h he
  | takeRecord t => exact taken_inBounds (fun _ => receiveCommand_inBounds _) h he
  | peekPeers t => exact taken_inBounds (fun _ => receiveCommand_inBounds _) h he
  | peekTracks t => exact taken_inBounds (fun _ => receiveCommand_inBounds _) h he
  | forceBeams t c mask pattern => exact taken_inBounds (fun _ => receiveCommand_inBounds _) h he
  | clearLockout t u camRdy =>
    exact taken_inBounds (f := fun d => receiveCommand _ { d with pins := _ })
      (fun _ hd => receiveCommand_inBounds _ hd.pins) h he
  | restart t stn role =>
    exact taken_inBounds (f := fun d => receiveCommand _ { d with pins := _ })
      (fun _ hd => receiveCommand_inBounds _ hd.pins) h he
  | invalidCommand t bytes => exact taken_inBounds (fun _ => InBounds.ite (receiveCommand_inBounds bytes)) h he
  | serviceByteError t b bad => exact taken_inBounds (fun _ => InBounds.ite (receiveByte_inBounds bad b)) h he
  | gapDeadlineExpires t => exact taken_inBounds (fun _ => gapExpires_inBounds) h he
  | replyEnd t stn role camRdy => exact taken_inBounds (fun _ => replyEnds_inBounds stn role camRdy) h he
  | serviceByteReceived t x =>
    refine taken_inBounds (fun d hd => receiveByte_inBounds false x.value ?_) h he
    unfold sampleWith
    exact InBounds.ite (f := fun d => { d with pins := _ }) InBounds.pins hd

end Sys2Proof.Machine

namespace Sys2Proof.Settled

open Sys2Proof.Machine

/-- Settles O57: every step keeps `InBounds`, by the case of the command at the front of the queue. -/
theorem boundsKept : Obligations.BoundsKept := by
  intro s s' hb hd hstep
  have h : InBounds s.dev := (inBounds_iff _).2 ⟨hb, hd⟩
  refine (inBounds_iff _).1 ?_
  unfold step at hstep
  split at hstep
  · rename_i c rest _
    exact exec_inBounds c (s := { s with pending := rest }) h hstep
  · cases hstep
    exact h.mono (by simp)

end Sys2Proof.Settled

/-! ## The gantry line: one rule for each operation of the receiver (R27, R28, R37 to R41) -/

namespace Sys2Proof.Machine

/-! ### Copies (R37) -/

/-- A copy noted, or ended, gathers no more. -/
theorem hearSymbol_closed {c : Copy} (x : LineSymbol) (h : c.noted = true ∨ c.progress = .ended) :
    hearSymbol c x = c := by
  unfold hearSymbol
  split
  · rfl
  · rw [h.resolve_left ‹_›]

/-- R37: a J or a K heard by a copy that is receiving. -/
theorem hearSymbol_violation {c : Copy} (b : Bool) (e : Time) (hn : c.noted = false) (hp : c.progress = .receiving) :
    hearSymbol c { firstHalf := b, secondHalf := b, ends := e } = { c with noted := true } := by
  cases b <;> simp [hearSymbol, hn, hp, codeOfLevels, noteFault]

/-- R200: a symbol that a start delimiter has next, of which `k` symbols have been heard. -/
theorem hearSymbol_next {c : Copy} (hn : c.noted = false) (hp : c.progress = .none) (k : Nat) (hk : k < 7)
    {x : LineSymbol} (hx : startDelimiter[k]? = some (codeOfLevels x.firstHalf x.secondHalf)) :
    hearSymbol { c with matched := k } x = { c with matched := k + 1 } := by
  have hne : k + 1 ≠ startDelimiter.length := by simp [startDelimiter]; omega
  simp only [hearSymbol, hn, hp, delimiterStep, hx]
  simp [hne]

/-- R37: the last symbol of a start delimiter. -/
theorem hearSymbol_last {c : Copy} (hn : c.noted = false) (hp : c.progress = .none) {x : LineSymbol}
    (hx : codeOfLevels x.firstHalf x.secondHalf = .zero) :
    hearSymbol { c with matched := 7 } x = copyBegun x.ends { c with matched := 7 } := by
  simp only [hearSymbol, hn, hp, delimiterStep, hx]
  rfl

theorem shiftBy_neg_eight (t : Time) : shiftBy t (-8) = t - 8#32 := by
  rw [shiftBy, BitVec.sub_eq_add_neg]
  rfl

/-- R37, R200: a whole start delimiter heard from its first symbol begins the copy. -/
theorem hear_startDelimiter {c : Copy} (hn : c.noted = false) (hp : c.progress = .none) (hm : c.matched = 0)
    (e0 e1 e2 e3 e4 e5 e6 e7 : Time) :
    [(⟨true, false, e0⟩ : LineSymbol), ⟨false, true, e1⟩, ⟨true, true, e2⟩, ⟨false, false, e3⟩, ⟨true, true, e4⟩,
        ⟨false, false, e5⟩, ⟨true, false, e6⟩, ⟨false, true, e7⟩].foldl hearSymbol c =
      { c with
        progress := .receiving, matched := 7, mark := some e7,
        noted := c.firstSeen.any fun f => isBefore f (e7 - 8#32) } := by
  have h0 : { c with matched := 0 } = c := by rw [← hm]
  simp only [List.foldl_cons, List.foldl_nil]
  rw [← h0, hearSymbol_next hn hp 0 (by decide) rfl, hearSymbol_next hn hp 1 (by decide) rfl,
    hearSymbol_next hn hp 2 (by decide) rfl, hearSymbol_next hn hp 3 (by decide) rfl,
    hearSymbol_next hn hp 4 (by decide) rfl, hearSymbol_next hn hp 5 (by decide) rfl,
    hearSymbol_next hn hp 6 (by decide) rfl, hearSymbol_last hn hp rfl]
  simp [copyBegun, hn, shiftBy_neg_eight]

/-- R37: bits heard by a copy that is receiving are gathered while a frame's most bits are not exceeded. -/
theorem hear_bits {c : Copy} (hn : c.noted = false) (hp : c.progress = .receiving) (l : List (Bool × Time))
    (hl : c.bits.length + l.length ≤ 528) :
    (l.map fun x => ({ firstHalf := x.1, secondHalf := !x.1, ends := x.2 } : LineSymbol)).foldl hearSymbol c =
      { c with bits := c.bits ++ l.map (·.1) } := by
  induction l generalizing c with
  | nil => simp
  | cons x rest ih =>
    have hlt : c.bits.length < 528 := by simp at hl; omega
    have hx : hearSymbol c { firstHalf := x.1, secondHalf := !x.1, ends := x.2 } = { c with bits := c.bits ++ [x.1] } := by
      rw [hearSymbol_receiving _ _ hn hp, gatherBit, if_pos hlt]
    rw [List.map_cons, List.foldl_cons, hx]
    have hrest := ih (c := { c with bits := c.bits ++ [x.1] }) hn hp (by simp at hl ⊢; omega)
    rw [hrest]
    simp

/-! ### Activity and jabber (R27, R28) -/

theorem activityFrom_eq (now : Time) (x : PairState) :
    activityFrom now x = some (x.activityStart.getD (x.silenceFrom.getD now)) := by
  unfold activityFrom
  split <;> simp [*]

/-- R27: on a BUSY line a transition moves the quiet deadline. -/
theorem lineActive_busy {d : Device} (h : d.liu.busy = true) :
    lineActive d = { d with liu := { d.liu with quietDeadline := some (d.clock + 10#32) } } := if_pos h

/-- R27, R30: on an IDLE line a transition begins a busy period, and a transmitter in DEFER gives its wait up. -/
theorem lineActive_idle {d : Device} (h : d.liu.busy = false) :
    let waiting := decide (d.liu.transmitter = .defer)
    lineActive d = { d with liu := { d.liu with
      busy := true, quietDeadline := some (d.clock + 10#32),
      pairA := { d.liu.pairA with copy := Copy.fresh (d.liu.pairA.condition == .jabbering) },
      pairB := { d.liu.pairB with copy := Copy.fresh (d.liu.pairB.condition == .jabbering) },
      transmitter := if waiting then .waitIdle else d.liu.transmitter,
      waitOrigin := if waiting then none else d.liu.waitOrigin,
      slotEnd := if waiting then none else d.liu.slotEnd,
      ownDrive := if d.liu.transmitter = .send then .driving else .nothing } } := by
  intro waiting
  unfold lineActive
  rw [if_neg (by simp [h])]
  by_cases hw : d.liu.transmitter = .defer
  · simp [waiting, hw, beginBusy, transmitterWaits, laterBy]
  · simp [waiting, hw, beginBusy, laterBy]

theorem takeTransition_disregarded {p : LinePair} {heard : List LineSymbol} {d : Device}
    (h : stationWorks d = false) : takeTransition p heard d = d := by simp [takeTransition, h]

theorem takeTransition_jabbering {p : LinePair} {heard : List LineSymbol} {d : Device} (h : stationWorks d = true)
    (hc : (linePair d p).condition = .jabbering) :
    takeTransition p heard d = setLinePair p { linePair d p with silenceFrom := some d.clock } d := by
  simp [takeTransition, h, hc]

/-- R27, R28, R37: a transition of a NORMAL pair: its activity, the line's, and then its copy. -/
theorem takeTransition_normal {p : LinePair} {heard : List LineSymbol} {d : Device} (h : stationWorks d = true)
    (hc : (linePair d p).condition = .normal) :
    let x := linePair d p
    let d1 := lineActive (setLinePair p { x with
      silenceFrom := some d.clock, activityStart := some (x.activityStart.getD (x.silenceFrom.getD d.clock)) } d)
    takeTransition p heard d
      = setLinePair p { linePair d1 p with copy := hearTransition d.clock heard (linePair d1 p).copy } d1 := by
  simp [takeTransition, h, hc, activityFrom_eq]

end Sys2Proof.Machine

namespace Sys2Proof.Settled

open Sys2Proof.Machine

/-- Settles O23, by the judgement of the pair's own copy. -/
theorem qualityCounts : Obligations.QualityCounts := by
  intro own other q hq
  refine ⟨nextQuality_le own other hq, ?_, ?_, ?_⟩
  · rintro rfl
    exact ⟨fun h => by simp only [nextQuality]; omega, fun h => by simp [nextQuality, h]⟩
  · rintro hown rfl
    have e : nextQuality own .good q = min 255 (q + 8) := by
      cases own with
      | good => exact absurd rfl hown
      | bad => rfl
      | absent => rfl
    rw [e]
    omega
  · intro hown hother
    cases own with
    | good => exact absurd rfl hown
    | bad | absent =>
      cases other with
      | good => exact absurd rfl hother
      | bad | absent => rfl

/-- Settles O20: the busy period begun, then the bit times heard by the pair. -/
theorem transitionBeginsBusyPeriod : Obligations.TransitionBeginsBusyPeriod := by
  intro t p heard s d hd hw hc hidle x y waiting
  have e : exec (.lineTransition t p heard) s = taken t (takeTransition p heard) s := rfl
  have hfresh : Copy.fresh false = Copy.fresh (x.condition == .jabbering) := by
    rw [show x.condition = .normal from hc]
    rfl
  rw [e, taken_found _ hd, takeTransition_normal hw hc, hfresh]
  cases p with
  | a | b =>
    rw [lineActive_idle (by exact hidle)]
    rfl

/-- Settles O21: a transition by the pair's condition, and a symbol by the copy's progress. -/
theorem transitionKeepsBusy : Obligations.TransitionKeepsBusy := by
  refine ⟨fun t p heard s d hd => ?_, fun c => ⟨fun x => hearSymbol_closed x, fun b e hn hp => ⟨?_, ?_, ?_⟩,
    fun e0 e1 e2 e3 e4 e5 e6 e7 hn hp hm => hear_startDelimiter hn hp hm e0 e1 e2 e3 e4 e5 e6 e7⟩⟩
  · have e : exec (.lineTransition t p heard) s = taken t (takeTransition p heard) s := rfl
    rw [e, taken_found _ hd]
    refine ⟨fun hw hc hbusy => ?_, fun hw hc => ?_, fun hw => ?_⟩
    · rw [takeTransition_normal hw hc]
      cases p with
      | a | b =>
        rw [lineActive_busy (by exact hbusy)]
        rfl
    · rw [takeTransition_jabbering hw hc]
    · rw [takeTransition_disregarded hw]
  · intro hl
    rw [hearSymbol_receiving b e hn hp, gatherBit, if_pos hl]
  · intro hl
    rw [hearSymbol_receiving b e hn hp, gatherBit, if_neg (by omega)]
    rfl
  · exact hearSymbol_violation b e hn hp

end Sys2Proof.Settled

/-! ## The idle instant (R27, R29, R38 to R44) and a clash (R36, R43, R59, R197) -/

namespace Sys2Proof.Machine

/-! ### What every idle instant does to the line -/

/-- R38: only a GOOD copy has a mark and a body to accept. -/
theorem judgeCopy_not_good {drive : OwnDrive} {x : PairState} (h : (judgeCopy drive x).1 ≠ .good) :
    (judgeCopy drive x).2 = none := by
  revert h
  unfold judgeCopy
  (repeat' split) <;> simp

/-- R40: without a GOOD copy the counters stay. -/
theorem nextQuality_stays {own other : Judgement} (q : Nat) (hown : own ≠ .good) (hother : other ≠ .good) :
    nextQuality own other q = q := by
  cases own with
  | good => exact absurd rfl hown
  | bad | absent =>
    cases other with
    | good => exact absurd rfl hother
    | bad | absent => rfl

/-- R27, R29: the line becomes IDLE, and a transmitter in WAIT_IDLE counts its wait from now. -/
theorem takeIdle_eq (d : Device) :
    let waiting := decide (d.liu.transmitter = .waitIdle)
    takeIdle d = { d with liu := { d.liu with
      busy := false, quietDeadline := none,
      transmitter := if waiting then .defer else d.liu.transmitter,
      waitOrigin := if waiting then some d.clock else d.liu.waitOrigin,
      slotEnd := if waiting then
          d.fx.queue.head?.map fun e => laterBy d.clock ((classOf e.out * 32 + ownNumber d) * 5)
        else d.liu.slotEnd } } := by
  intro waiting
  unfold takeIdle
  by_cases hw : d.liu.transmitter = .waitIdle
  · simp only [waiting, hw, decide_true, if_true]
    rfl
  · simp [waiting, hw]

/-- R41: the preferred pair moves with LINE_SWITCHOVER exactly when it stands at 64 or more and at least 32 above the
other. -/
theorem judgePreference_eq (d : Device) :
    let moves := decide (64 ≤ qualityOf d d.liu.preferred)
      && decide (qualityOf d (otherPair d.liu.preferred) + 32 ≤ qualityOf d d.liu.preferred)
    judgePreference d = { d with
      liu := { d.liu with preferred := if moves then otherPair d.liu.preferred else d.liu.preferred },
      rqs := { d.rqs with
        flags := if moves then d.rqs.flags ||| flagBit .lineSwitchover else d.rqs.flags } } := by
  intro moves
  have hm : moves = true ↔ 64 ≤ qualityOf d d.liu.preferred
      ∧ qualityOf d (otherPair d.liu.preferred) + 32 ≤ qualityOf d d.liu.preferred := by simp [moves]
  simp only [judgePreference, ← hm]
  cases moves <;> rfl

/-- The line's part of an idle instant. -/
theorem judgePreference_updateQuality_takeIdle (d : Device) :
    judgePreference (updateQuality (judgeCopy d.liu.ownDrive d.liu.pairA).1 (judgeCopy d.liu.ownDrive d.liu.pairB).1
      (takeIdle d)) = lineIdled d := by
  rw [judgePreference_eq, takeIdle_eq, lineIdled]
  cases hp : d.liu.preferred <;> simp [updateQuality, qualityOf, linePair, otherPair, hp]

/-- R42, R44: an accepted copy is classified and handed on after what the idle instant does to the line. -/
theorem idleInstant_accepts {d : Device} {mark : Time} {body : List Byte} (h : acceptedCopy d = some (mark, body)) :
    idleInstant d = dispatchFrame mark body (lineIdled d) := by
  simp only [idleInstant, judgePreference_updateQuality_takeIdle]
  rw [show chooseCopy _ _ _ = some (mark, body) from h]

theorem idleInstant_unaccepted {d : Device} (h : acceptedCopy d = none) : idleInstant d = lineIdled d := by
  simp only [idleInstant, judgePreference_updateQuality_takeIdle]
  rw [show chooseCopy _ _ _ = none from h]

theorem quietExpires_due {d : Device} {a : Time} (hq : d.liu.quietDeadline = some a) (ha : isAfter a d.clock = false) :
    quietExpires d = idleInstant d := if_pos (due_of_reached hq ha)

@[simp] theorem lineIdled_frame (d : Device) :
    (lineIdled d).clock = d.clock ∧ (lineIdled d).cfl = d.cfl ∧ (lineIdled d).fx = d.fx ∧ (lineIdled d).htk = d.htk
      ∧ (lineIdled d).liu.ownDrive = d.liu.ownDrive := by simp [lineIdled]

/-! ### A clash -/

/-- A CLAIM of the queue that was not withdrawn, for a track. -/
def flushesTrack (q : List QueueEntry) (tr : Track) : Bool := q.any fun e => claimsTrack tr.id e && !e.withdrawn

/-- NO_CLAIM on the tracks whose CLAIM the queue held. -/
def withClaimsFlushed (q : List QueueEntry) (tr : Track) : Track :=
  if flushesTrack q tr then { tr with flags := { tr.flags with noClaim := true } } else tr

theorem withClaimsFlushed_cons (e : QueueEntry) (q : List QueueEntry) (tr : Track) :
    withClaimsFlushed q (withClaimsFlushed [e] tr) = withClaimsFlushed (e :: q) tr := by
  cases he : (claimsTrack tr.id e && !e.withdrawn) <;> simp [withClaimsFlushed, flushesTrack, he]

theorem map_withClaimsFlushed_self {q : List QueueEntry} {l : List Track} (h : ∀ tr ∈ l, flushesTrack q tr = false) :
    l.map (withClaimsFlushed q) = l :=
  (List.map_congr_left fun tr htr => by simp [withClaimsFlushed, h tr htr]).trans (List.map_id' l)

/-- R59: a flushed entry is reported to its track, when it is a CLAIM not withdrawn. -/
theorem reportDropped_flushed (e : QueueEntry) (d : Device) :
    reportDropped .flushed e d = setTracks (d.htk.tracks.map (withClaimsFlushed [e])) d := by
  have hnone : (∀ tr ∈ d.htk.tracks, flushesTrack [e] tr = false) →
      setTracks (d.htk.tracks.map (withClaimsFlushed [e])) d = d := fun h => by
    rw [map_withClaimsFlushed_self h]
    rfl
  unfold reportDropped
  split
  · rename_i c hc
    split
    · exact (hnone fun tr _ => by simp [flushesTrack, *]).symm
    · rename_i hw
      unfold dropReport
      split
      · rename_i hf
        have hid : ∀ tr ∈ d.htk.tracks, tr.id ≠ c.trackId := by simpa [findTrack] using hf
        exact (hnone fun tr htr => by simp [flushesTrack, claimsTrack, hc, (hid tr htr).symm]).symm
      · refine congrArg (setTracks · d) (List.map_congr_left fun tr _ => ?_)
        have hfl : flushesTrack [e] tr = (tr.id == c.trackId) := by
          simp [flushesTrack, claimsTrack, hc, hw, BEq.comm]
        rw [withClaimsFlushed, hfl]
  · rename_i hc
    refine (hnone fun tr _ => ?_).symm
    cases ho : e.out with
    | claim c => exact absurd ho (hc c)
    | presence | sighting _ | release _ => simp [flushesTrack, claimsTrack, ho]

/-- R59: every CLAIM of the queue that was not withdrawn leaves NO_CLAIM on its track. -/
theorem forEach_reportDropped_flushed (q : List QueueEntry) (d : Device) :
    forEach q (reportDropped .flushed) d = setTracks (d.htk.tracks.map (withClaimsFlushed q)) d := by
  unfold forEach
  induction q generalizing d with
  | nil =>
    rw [map_withClaimsFlushed_self fun _ _ => rfl]
    rfl
  | cons e q ih =>
    rw [List.foldl_cons, ih, reportDropped_flushed]
    simp [setTracks, Function.comp_def, withClaimsFlushed_cons]

end Sys2Proof.Machine

namespace Sys2Proof.Settled

open Sys2Proof.Machine

/-- Settles O24: no copy is GOOD, so none is accepted and both counters stay. -/
theorem idleInstantWithoutFrame : Obligations.IdleInstantWithoutFrame := by
  intro t s d a hd hq ha hA hB moves waiting
  have e : exec (.quietDeadlineExpires t) s = taken t quietExpires s := rfl
  have hnone : acceptedCopy d = none := by
    cases hp : d.liu.preferred <;> simp [acceptedCopy, chooseCopy, judgeCopy_not_good hA, judgeCopy_not_good hB, hp]
  rw [e, taken_found _ hd, quietExpires_due hq ha, idleInstant_unaccepted hnone, lineIdled]
  simp only [nextQuality_stays _ hA hB, nextQuality_stays _ hB hA]
  cases hp : d.liu.preferred <;> simp [moves, waiting, qualityOf, linePair, otherPair, hp] <;> rfl

/-- Settles O25: the accepted copy is a clash, which silences a station that is not SILENT. -/
theorem clashSilences : Obligations.ClashSilences := by
  intro t s d a mark body hd hq ha hacc hown hsent d1 clashed
  have e : exec (.quietDeadlineExpires t) s = .next (settled s (takeClash d1)) := by
    have e' : exec (.quietDeadlineExpires t) s = taken t quietExpires s := rfl
    rw [e', taken_found _ hd, quietExpires_due hq ha, idleInstant_accepts hacc, dispatchFrame]
    rw [if_pos (by simpa [ownNumber] using hown), if_neg (by simpa using hsent)]
  have hstation : d1.cfl = d.cfl := by simp [d1]
  rw [e]
  refine ⟨fun hworks => ?_, fun hsilent => ?_⟩
  · have hclash : takeClash d1 = enterSilent (raise .clash d1) := by
      unfold takeClash
      rcases hworks with h | h <;> rw [hstation, h]
    rw [hclash]
    simp only [enterSilent, forEach_reportDropped_flushed]
    rfl
  · have hclash : takeClash d1 = raise .clash d1 := by
      unfold takeClash
      rw [hstation, hsilent]
    rw [hclash]
    rfl

end Sys2Proof.Settled

/-! ## Jabber (R28) -/

namespace Sys2Proof.Machine

theorem FoundAt.not_after {t : Time} {s : State} {d : Device} (h : FoundAt t s d) : isAfter t d.clock = false := by
  obtain ⟨-, rfl⟩ := h
  rw [advanceTo_clock]
  split
  · exact isAfter_self t
  · exact Bool.eq_false_iff.2 ‹_›

/-- A part with the clock and the pins of the one a command finds is found by that command as it stands. -/
theorem FoundAt.replaced {t : Time} {s : State} {d x : Device} (h : FoundAt t s d)
    (e : x.clock = d.clock ∧ x.pins = d.pins) : FoundAt t { s with dev := x } x := by
  obtain ⟨hclock, hpins⟩ := e
  have hafter := h.not_after
  obtain ⟨hr, hd⟩ := h
  refine ⟨?_, ?_⟩
  · simp [hpins, hd, hr]
  · simp [advanceTo, hclock, hafter]

theorem silent10_iff (now : Time) (x : PairState) :
    silent10 now x = true
      ↔ x.silenceFrom = none ∨ ∃ w, x.silenceFrom = some w ∧ isAfter (w + 10#32) now = false := by
  unfold silent10
  split
  · simp [*, laterBy]
  · simp [*]

/-- R28: 1,000 µs of activity make a NORMAL pair JABBERING, and beside a silent pair the quiet deadline expires. -/
theorem takeJabber_reached {p : LinePair} {d : Device} {a : Time} (hc : (linePair d p).condition = .normal)
    (hs : (linePair d p).activityStart = some a) (ha : isAfter (a + 1000#32) d.clock = false) :
    let x := linePair d p
    let marked := setLinePair p { x with condition := .jabbering, copy := { x.copy with jabbered := true } } d
    takeJabber p d = if silent10 d.clock (linePair d (otherPair p)) && d.liu.quietDeadline.isSome then
      idleInstant marked else marked := by
  have hdue : due (some (laterBy a 1000)) d.clock = true := due_of_reached rfl ha
  simp [takeJabber, hc, hs, hdue]

/-- An idle instant does not read the quiet deadline that led to it. -/
theorem idleInstant_quietDeadline (d : Device) (q : Option Time) :
    idleInstant { d with liu := { d.liu with quietDeadline := q } } = idleInstant d := rfl

/-- R28, R37: 10 µs without a transition. -/
theorem takeQuiet_reached {p : LinePair} {d : Device} {w : Time} (hs : (linePair d p).silenceFrom = some w)
    (hw : isAfter (w + 10#32) d.clock = false) : takeQuiet p d = setLinePair p (quietPair (linePair d p)) d := by
  have hdue : due (some (laterBy w 10)) d.clock = true := due_of_reached rfl hw
  simp [takeQuiet, hs, hdue]

theorem quietPair_eq (x : PairState) :
    quietPair x = { x with
      condition := .normal, activityStart := none, silenceFrom := none,
      copy := { x.copy with
        progress := if x.copy.progress = .receiving then .ended else x.copy.progress } } := by
  by_cases h : x.copy.progress = .receiving <;> simp [quietPair, h]

end Sys2Proof.Machine

namespace Sys2Proof.Settled

open Sys2Proof.Machine

/-- Settles O22: what ENTER_JABBERING does beside a silent pair is what QUIET_DEADLINE_EXPIRES does on the part with the
pair marked. -/
theorem jabberingComesAndGoes : Obligations.JabberingComesAndGoes := by
  intro t p s d hd x y marked silent
  have hsilent : silent10 d.clock y = true ↔ silent := silent10_iff d.clock y
  refine ⟨fun a hc hs ha => ?_, fun w hs hw => ?_⟩
  · have e : exec (.enterJabbering t p) s = taken t (takeJabber p) s := rfl
    rw [e, taken_found _ hd, takeJabber_reached hc hs ha]
    refine ⟨fun h => ?_, fun h hq => ?_⟩
    · have hstays : (silent10 d.clock y && d.liu.quietDeadline.isSome) = false := by
        rcases h with h | h
        · simp [Bool.eq_false_iff.2 (hsilent.not.2 h)]
        · simp [h]
      rw [if_neg (by simpa using hstays)]
    · have hq' : d.liu.quietDeadline.isSome = true := Option.isSome_iff_ne_none.2 hq
      let reached : Device := { marked with liu := { marked.liu with quietDeadline := some d.clock } }
      have hfound : FoundAt t { s with dev := reached } reached := hd.replaced (by simp [reached, marked])
      have hquiet : exec (.quietDeadlineExpires t) { s with dev := reached }
          = .next (settled { s with dev := reached } (quietExpires reached)) := taken_found quietExpires hfound
      have hclock : isAfter d.clock reached.clock = false := by simp [reached, marked]
      rw [if_pos (by rw [hsilent.2 h, hq']; rfl), hquiet, quietExpires_due rfl hclock, idleInstant_quietDeadline]
      rfl
  · have e : exec (.pairQuiet t p) s = taken t (takeQuiet p) s := rfl
    rw [e, taken_found _ hd, takeQuiet_reached hs hw, quietPair_eq]

end Sys2Proof.Settled

/-! ## The transmitter and the outbound queue (R26, R29 to R35, R51, R57, R58) -/

namespace Sys2Proof.Machine

/-! ### A change of the queue -/

theorem forgetCollided_kept {d : Device} (h : ∀ o, d.liu.collided = some o → ∃ e ∈ d.fx.queue, e.order = o) :
    forgetCollided d = d := by
  unfold forgetCollided
  split
  · rfl
  · rename_i o ho
    rw [if_pos (by simpa using h o ho)]

@[simp] theorem forgetCollided_transmitter (d : Device) :
    (forgetCollided d).liu.transmitter = d.liu.transmitter ∧ (forgetCollided d).liu.busy = d.liu.busy := by
  unfold forgetCollided
  (repeat' split) <;> simp

/-- A change of the queue reaches the queue and the line unit alone. -/
theorem setQueue_parts (q : List QueueEntry) (d : Device) :
    setQueue q d = { d with fx := { d.fx with queue := q }, liu := (setQueue q d).liu } := by
  have hframe := setQueue_frame q d
  have hfx := setQueue_fx q d
  generalize setQueue q d = d' at hframe hfx ⊢
  obtain ⟨h1, h2, h3, h4, h5, h6, h7, h8, h9, h10, h11⟩ := hframe
  rw [← hfx, ← h1, ← h2, ← h3, ← h4, ← h5, ← h6, ← h7, ← h8, ← h9, ← h10, ← h11]

/-- A frame in SEND goes on whatever becomes of the queue. -/
theorem followQueue_send {d : Device} (h : d.liu.transmitter = .send) : followQueue d = d := by
  simp [followQueue, h]

theorem followQueue_waitIdle {d : Device} (h : d.liu.transmitter = .waitIdle) :
    followQueue d = if d.fx.queue.isEmpty then transmitterEmpty d else d := by simp [followQueue, h]

/-- R29: a queue that gains an entry leaves EMPTY in RUNNING. -/
theorem followQueue_empty {d : Device} (h : d.liu.transmitter = .empty) (hr : d.cfl.station = .running)
    (hq : d.fx.queue ≠ []) : followQueue d = if d.liu.busy then transmitterWaits d else transmitterDefers d := by
  simp [followQueue, h, hr, hq]

/-- R29: the first entry of a queue begins the wait of an EMPTY transmitter. -/
theorem setQueue_transmitter {d : Device} {q : List QueueEntry} (h : d.liu.transmitter = .empty)
    (hr : d.cfl.station = .running) (hq : q ≠ []) :
    (setQueue q d).liu.transmitter = if d.liu.busy then .waitIdle else .defer := by
  rw [setQueue, followQueue_empty (by simpa using h) (by simpa using hr) (by simpa using hq)]
  cases hb : d.liu.busy <;> simp [hb, transmitterWaits, transmitterDefers]

/-- The head alone has its queuing order. -/
def HeadOf (d : Device) (e : QueueEntry) (rest : List QueueEntry) : Prop :=
  d.fx.queue = e :: rest ∧ ∀ x ∈ rest, x.order ≠ e.order

section Head

variable {d : Device} {e : QueueEntry} {rest : List QueueEntry}

theorem HeadOf.find (h : HeadOf d e rest) : findEntry d e.order = some e := by simp [findEntry, h.1]

theorem HeadOf.remove (h : HeadOf d e rest) : removeEntry e.order d = setQueue rest d := by
  have hrest : rest.filter (fun x => x.order != e.order) = rest :=
    List.filter_eq_self.2 fun x hx => by simpa using h.2 x hx
  simp [removeEntry, h.1, hrest]

theorem HeadOf.modify (h : HeadOf d e rest) (f : QueueEntry → QueueEntry) :
    modifyEntry e.order f d = setQueue (f e :: rest) d := by
  have hrest : rest.map (fun x => if x.order == e.order then f x else x) = rest :=
    (List.map_congr_left fun x hx => by simp [h.2 x hx]).trans (List.map_id' rest)
  rw [modifyEntry, h.1, List.map_cons, hrest]
  simp

end Head

/-- A queue that still holds the collided frame changes nothing else while a frame is in SEND. -/
theorem setQueue_send {d : Device} {q : List QueueEntry} (h : d.liu.transmitter = .send)
    (hc : ∀ o, d.liu.collided = some o → ∃ e ∈ q, e.order = o) :
    setQueue q d = { d with fx := { d.fx with queue := q } } := by
  rw [setQueue, forgetCollided_kept (by exact hc)]
  exact followQueue_send h

/-- R29: a transmitter in WAIT_IDLE goes on waiting for a queue that is not empty. -/
theorem setQueue_waitIdle {d : Device} {q : List QueueEntry} (h : d.liu.transmitter = .waitIdle)
    (hc : ∀ o, d.liu.collided = some o → ∃ e ∈ q, e.order = o) :
    setQueue q d = if q.isEmpty then transmitterEmpty { d with fx := { d.fx with queue := q } }
      else { d with fx := { d.fx with queue := q } } := by
  rw [setQueue, forgetCollided_kept (by exact hc)]
  exact followQueue_waitIdle h

/-! ### A frame started (R26, R31) -/

/-- R26, R31: the head's frame started now: a busy period begins with it, and only the collided frame has a count. -/
theorem startFrame_head {d : Device} {e : QueueEntry} {rest : List QueueEntry} (body : List Byte) (h : HeadOf d e rest) :
    startFrame e body d = { d with
      fx := { d.fx with queue := { e with onLine := true } :: rest },
      liu := { d.liu with
        busy := true, quietDeadline := some (d.clock + 10#32),
        transmitter := .send, waitOrigin := none, slotEnd := none, frameInHand := some e.order,
        collisions := if d.liu.collided = some e.order then d.liu.collisions else 0,
        collided := if d.liu.collided = some e.order then d.liu.collided else none,
        driven := some (drivenFrame d.clock body),
        ownDrive := .driving,
        pairA := { d.liu.pairA with
          readbackMatch := true, copy := Copy.fresh (d.liu.pairA.condition == .jabbering) },
        pairB := { d.liu.pairB with
          readbackMatch := true, copy := Copy.fresh (d.liu.pairB.condition == .jabbering) } } } := by
  rw [startFrame, HeadOf.modify (rest := rest) (by exact h), setQueue_send rfl]
  · by_cases hc : d.liu.collided = some e.order <;> simp [hc, beginBusy, laterBy]
  · intro o ho
    obtain ⟨hsame, ho⟩ : d.liu.collided = some e.order ∧ d.liu.collided = some o := by simpa using ho
    exact ⟨_, List.mem_cons_self, Option.some.inj (hsame.symm.trans ho)⟩

/-- R30, R31: a slot end reached in DEFER starts the head's frame when it is supplied. -/
theorem takeSlotEnd_supplied {d : Device} {e : QueueEntry} {rest : List QueueEntry} {a : Time} {body : List Byte}
    (hr : d.cfl.station = .running) (ht : d.liu.transmitter = .defer) (hs : d.liu.slotEnd = some a)
    (ha : isAfter a d.clock = false) (hq : d.fx.queue = e :: rest)
    (hfix : fixFrame d (d.clock + 8#32) e.out = .supplied body) : takeSlotEnd d = startFrame e body d := by
  rw [takeSlotEnd, if_pos hr, offerHead, hq]
  simp only []
  rw [if_pos ⟨ht, due_of_reached hs ha⟩, show fixFrame d (laterBy d.clock 8) e.out = .supplied body from hfix]

/-! ### A collision (R32 to R34, R57) -/

@[simp] theorem linePair_other_setLinePair (p : LinePair) (x : PairState) (d : Device) :
    linePair (setLinePair p x d) (otherPair p) = linePair d (otherPair p) :=
  linePair_setLinePair_other p (otherPair p) x d (by cases p <;> simp [otherPair])

theorem takeMismatch_first {p : LinePair} {d : Device} (ht : d.liu.transmitter = .send)
    (hm : (linePair d p).readbackMatch = true) (ho : (linePair d (otherPair p)).readbackMatch = true) :
    takeMismatch p d = setLinePair p { linePair d p with readbackMatch := false } d := by
  simp [takeMismatch, ht, hm, ho]

theorem takeMismatch_second {p : LinePair} {d : Device} (ht : d.liu.transmitter = .send)
    (hm : (linePair d p).readbackMatch = true) (ho : (linePair d (otherPair p)).readbackMatch = false) :
    takeMismatch p d = takeCollision (setLinePair p { linePair d p with readbackMatch := false } d) := by
  simp [takeMismatch, ht, hm, ho]

@[simp] theorem setLinePair_count (p : LinePair) (x : PairState) (d : Device) :
    (setLinePair p x d).liu.frameInHand = d.liu.frameInHand
      ∧ (setLinePair p x d).liu.collisions = d.liu.collisions := by cases p <;> simp [setLinePair]

/-- R33, R34: a collision cuts the frame in hand, and the eighth gives it up. -/
theorem takeCollision_inHand {d : Device} {order : Nat} (h : d.liu.frameInHand = some order) :
    takeCollision d = if 8 ≤ d.liu.collisions + 1 then giveUp order (cutFrame order d)
      else collisionOutcome order (cutFrame order d) := by
  simp only [takeCollision, h]
  rfl

section Collision

variable {d : Device} {e : QueueEntry} {rest : List QueueEntry}

/-- R57: after a collision the head stays in its place, off the line, unless it is a withdrawn CLAIM, is revised or
expires. -/
theorem collisionOutcome_head (h : HeadOf d e rest) (ht : d.liu.transmitter = .waitIdle)
    (hc : d.liu.collided = some e.order) (hrev : e.revision = none) (hw : e.withdrawn = false)
    (hx : due (expiryOf e.out) d.clock = false) :
    collisionOutcome e.order d = { d with fx := { d.fx with queue := { e with onLine := false } :: rest } } := by
  have hafter : afterCollision e = some { e with onLine := false } := by
    unfold afterCollision
    split <;> simp_all
  have hmodify : modifyEntry e.order (fun _ => { e with onLine := false }) d
      = { d with fx := { d.fx with queue := { e with onLine := false } :: rest } } := by
    rw [h.modify, setQueue_waitIdle ht, if_neg (by simp)]
    intro o ho
    exact ⟨_, List.mem_cons_self, Option.some.inj (hc.symm.trans ho)⟩
  simp only [collisionOutcome, h.find, hafter, hmodify]
  simp [entryExpires, findEntry, hx]

/-- R34: the eighth collision of a frame that is no CLAIM. -/
theorem giveUp_head (h : HeadOf d e rest) (ht : d.liu.transmitter = .waitIdle) (hw : d.liu.waitOrigin = none)
    (hs : d.liu.slotEnd = none) (hc : ∀ c, e.out ≠ .claim c) :
    giveUp e.order d = { d with
      fx := { d.fx with queue := rest },
      liu := { d.liu with
        collisions := 0, collided := none, transmitter := if rest.isEmpty then .empty else .waitIdle },
      rqs := { d.rqs with flags := d.rqs.flags ||| flagBit .lineContention } } := by
  have hreport : ∀ x, reportDropped .contention e x = x := fun x => by
    unfold reportDropped
    split
    · exact absurd ‹_› (hc _)
    · rfl
  simp only [giveUp, h.find, hreport]
  rw [HeadOf.remove (rest := rest) (by exact h), setQueue_waitIdle (by exact ht) (by simp)]
  cases rest <;> simp [transmitterEmpty, raise, ht, hw, hs]

end Collision

/-! ### A frame sent (R35, R57) -/

/-- R35: the end of the CRC: the drivers stop and the count is cleared, before the entry is settled (R57). -/
theorem takeSent_head {d : Device} {f : DrivenFrame} {e : QueueEntry} {rest : List QueueEntry}
    (ht : d.liu.transmitter = .send) (hf : d.liu.driven = some f) (hi : d.liu.frameInHand = some e.order)
    (ha : isAfter f.ends d.clock = false) (h : HeadOf d e rest) :
    let sent : Liu := { d.liu with
      driven := none, ownDrive := .sent, frameInHand := none, collisions := 0, collided := none, waitOrigin := none,
      slotEnd := none }
    takeSent d = match afterSent e with
      | some e' => { d with fx := { d.fx with queue := e' :: rest }, liu := { sent with transmitter := .waitIdle } }
      | none => { d with
          fx := { d.fx with queue := rest },
          liu := { sent with transmitter := if rest.isEmpty then .empty else .waitIdle } } := by
  intro sent
  simp only [takeSent, ht, hf, hi, ha, h.find, Option.bind_some]
  cases he : afterSent e with
  | some e' =>
    simp only []
    rw [HeadOf.modify (rest := rest) (by exact h), setQueue_waitIdle rfl (by simp [transmitterWaits])]
    simp [sent, transmitterWaits]
  | none =>
    simp only []
    rw [HeadOf.remove (rest := rest) (by exact h), setQueue_waitIdle rfl (by simp [transmitterWaits])]
    cases rest <;> simp [sent, transmitterWaits, transmitterEmpty]

theorem afterSent_removed {e : QueueEntry} (h : (∀ c, e.out ≠ .claim c) ∨ e.withdrawn = true ∨ e.revision = none) :
    afterSent e = none := by
  unfold afterSent
  split
  · simp_all
  · rfl

theorem afterSent_revised {e : QueueEntry} {c r : ClaimContents} (ho : e.out = .claim c) (hw : e.withdrawn = false)
    (hr : e.revision = some r) :
    afterSent e = some { e with out := .claim { r with sentBefore := true }, revision := none, onLine := false } := by
  simp [afterSent, ho, hw, hr, reviseEntry]

/-! ### The presence schedule (R58) -/

theorem presenceExpires_reached {d : Device} {a : Time} {im : Image} (hi : d.cfl.image = some im)
    (hp : d.fx.presenceDeadline = some a) (ha : isAfter a d.clock = false) :
    presenceExpires d = requestPresence { d with
      fx := { d.fx with presenceDeadline := some (a + BitVec.ofNat 32 (im.presencePeriod * 1000)) } } := by
  simp [presenceExpires, hp, due, ha, presenceMicros, hi, laterBy]

/-- R51: a PRESENCE on the line absorbs the request; one off the line is replaced, and its collision count goes. -/
theorem requestPresence_queued {d : Device} {e : QueueEntry} (hr : d.cfl.station = .running)
    (he : d.fx.queue.find? (fun x => x.out == .presence) = some e) :
    requestPresence d = if e.onLine then d else supersede e.order d := by simp [requestPresence, hr, he]

theorem requestPresence_joins {d : Device} (hr : d.cfl.station = .running)
    (he : ∀ e ∈ d.fx.queue, e.out ≠ .presence) : requestPresence d = (joinQueue .presence d).1 := by
  have hnone : d.fx.queue.find? (fun x => x.out == .presence) = none := by simpa using he
  simp [requestPresence, hr, hnone]

/-- R49: no class number is above that of a PRESENCE. -/
theorem classOf_le_presence (out : Outbound) : classOf out ≤ classOf .presence := by cases out <;> simp [classOf]

theorem joinByClass_presence {e : QueueEntry} (q : List QueueEntry) (h : e.out = .presence) :
    joinByClass e q = q ++ [e] := by
  have hall : ∀ x ∈ q, decide (classOf x.out ≤ classOf e.out) = true := fun x _ => by simp [h, classOf_le_presence]
  simp [joinByClass, List.takeWhile_eq_self_iff.2 hall, List.dropWhile_eq_nil_iff.2 hall]

/-- R54: no entry gives way to a PRESENCE. -/
theorem victimFor_presence (q : List QueueEntry) : victimFor (classOf .presence) q = none := by
  cases hv : victimFor (classOf .presence) q with
  | none => rfl
  | some v =>
    obtain ⟨-, hlt, -⟩ := victimFor_some hv
    exact absurd (classOf_le_presence v.out) (by omega)

/-- R29, R49: a PRESENCE joins at the end of a queue that has a place; the first of a queue begins the wait. -/
theorem joinQueue_presence {d : Device} (hr : d.cfl.station = .running) (hroom : d.fx.queue.length < 8) :
    ∃ liu : Liu,
      (joinQueue .presence d).1 = { d with
        fx := { d.fx with
          nextOrder := d.fx.nextOrder + 1,
          queue := d.fx.queue ++
            [{ order := d.fx.nextOrder, out := .presence, onLine := false, revision := none, withdrawn := false }] },
        liu := liu }
      ∧ (d.fx.queue = [] → d.liu.transmitter = .empty →
          liu.transmitter = if d.liu.busy then .waitIdle else .defer) := by
  rcases joinQueue_cases .presence d with ⟨-, e⟩ | ⟨hfull, -⟩ | ⟨hfull, -⟩
  · rw [e, joinByClass_presence _ rfl]
    exact ⟨_, setQueue_parts _ _, fun _ ht => setQueue_transmitter (by exact ht) (by exact hr) (by simp)⟩
  · omega
  · omega

end Sys2Proof.Machine

namespace Sys2Proof.Settled

open Sys2Proof.Machine

/-- Settles O31: the head is supplied at once, and the entry that goes on the line is the collided one or none is. -/
theorem slotEndStartsFrame : Obligations.SlotEndStartsFrame := by
  intro t s d a e rest body hd hr ht hs ha hq hrest hfix
  have hx : exec (.slotEnd t) s = taken t takeSlotEnd s := rfl
  rw [hx, taken_found _ hd, takeSlotEnd_supplied hr ht hs ha hq hfix, startFrame_head body ⟨hq, hrest⟩]
  rfl

/-- Settles O32: the first mismatch marks a pair; the second cuts the frame, and the count decides on its entry. -/
theorem mismatchesCollide : Obligations.MismatchesCollide := by
  intro t p s d e rest hd ht hi hq hrest hm marked cut
  have hx : exec (.readbackMismatch t p) s = taken t (takeMismatch p) s := rfl
  rw [hx, taken_found _ hd]
  refine ⟨fun ho => by rw [takeMismatch_first ht hm ho], fun ho => ?_⟩
  have hhead : HeadOf (cutFrame e.order marked) e rest := ⟨by simpa [marked] using hq, hrest⟩
  rw [takeMismatch_second ht hm ho, takeCollision_inHand (order := e.order) (by simpa using hi), (setLinePair_count ..).2]
  refine ⟨fun hlt hrev hw hexp => ?_, fun hge hc => ?_⟩
  · rw [if_neg (by omega), collisionOutcome_head hhead rfl rfl hrev hw (by simpa [marked] using hexp)]
    cases p <;> rfl
  · rw [if_pos (by omega), giveUp_head hhead rfl rfl rfl hc]
    cases p <;> rfl

/-- Settles O33: what `afterSent` leaves of the entry. -/
theorem frameSentLeavesQueue : Obligations.FrameSentLeavesQueue := by
  intro t s d f e rest hd ht hf hi ha hq hrest sent
  have hx : exec (.frameSent t) s = taken t takeSent s := rfl
  rw [hx, taken_found _ hd, takeSent_head ht hf hi ha ⟨hq, hrest⟩]
  refine ⟨fun h => ?_, fun c r ho hw hr => ?_⟩
  · rw [afterSent_removed h]
  · rw [afterSent_revised ho hw hr]

/-- Settles O35: by the PRESENCE the queue holds, and by its room when it holds none. -/
theorem presenceSchedule : Obligations.PresenceSchedule := by
  intro t s d a im hd hr hi hp ha advanced
  have hx : exec (.presenceDeadlineExpires t) s = taken t presenceExpires s := rfl
  rw [hx, taken_found _ hd, presenceExpires_reached hi hp ha]
  refine ⟨?_, fun hnone hroom => ?_, fun hnone hfull => ?_⟩
  · intro e he superseded
    rw [requestPresence_queued (by exact hr) (by exact he)]
    cases hl : e.onLine with
    | true => exact ⟨fun _ => rfl, fun hs => absurd (hl.symm.trans hs.1) (by simp)⟩
    | false =>
      rcases supersede_cases e.order { d with fx := { d.fx with presenceDeadline := advanced } } with
        ⟨hc, e'⟩ | ⟨hc, e'⟩
      · exact ⟨fun _ => by rw [if_neg (by simp), e'], fun hs => absurd hs.2 hc⟩
      · exact ⟨fun hs => absurd ⟨hl, hc⟩ hs, fun _ => by rw [if_neg (by simp), e']⟩
  · rw [requestPresence_joins (by exact hr) (by exact hnone)]
    obtain ⟨liu, e, htx⟩ := joinQueue_presence (d := { d with fx := { d.fx with presenceDeadline := advanced } }) hr hroom
    exact ⟨liu, by rw [e], htx⟩
  · rw [requestPresence_joins (by exact hr) (by exact hnone)]
    rcases joinQueue_cases .presence { d with fx := { d.fx with presenceDeadline := advanced } } with
      ⟨hlt, -⟩ | ⟨-, v, hv, -⟩ | ⟨-, -, e⟩
    · exact absurd hlt (by simpa using hfull)
    · exact nomatch hv.symm.trans (victimFor_presence _)
    · rw [e]

end Sys2Proof.Settled

/-! ## A frame sent is received (R26, R37, R38, R200) -/

namespace Sys2Proof.Machine

/-! ### Bytes and bits -/

theorem length_lineBits (b : Byte) : (lineBits b).length = 8 := by simp [lineBits]

/-- R200: a byte's bits in the order on the line, gathered again. -/
theorem byteOfBits_lineBits (b : Byte) : byteOfBits (lineBits b) = b := by
  revert b
  decide

theorem gatherBytes_lineBits (b : Byte) (rest : List Bool) : gatherBytes (lineBits b ++ rest) = b :: gatherBytes rest :=
  congrArg (· :: gatherBytes rest) (byteOfBits_lineBits b)

theorem gatherBytes_flatMap (bytes : List Byte) : gatherBytes (bytes.flatMap lineBits) = bytes := by
  induction bytes with
  | nil => rfl
  | cons b rest ih => rw [List.flatMap_cons, gatherBytes_lineBits, ih]

theorem length_flatMap_lineBits (bytes : List Byte) : (bytes.flatMap lineBits).length = 8 * bytes.length := by
  simp [List.length_flatMap, length_lineBits, Nat.mul_comm]

theorem length_bytesOf (k n : Nat) : (bytesOf k n).length = k := by
  induction k with
  | zero => rfl
  | succ k ih => simp [bytesOf, ih]

/-- Two bytes carry a number of 16 bits. -/
theorem numberOf_bytesOf_two (r : BitVec 16) : numberOf (bytesOf 2 r.toNat) = r.toNat := by
  have h := r.isLt
  simp [numberOf, bytesOf, byteOf]
  omega

/-! ### The body (R38) -/

/-- R38: the shortest body is a RELEASE, the longest a CLAIM. -/
theorem bodyAgrees_length {body : List Byte} (h : bodyAgrees body = true) : 3 ≤ body.length ∧ body.length ≤ 27 := by
  simp only [bodyAgrees, Bool.and_eq_true] at h
  obtain ⟨-, h⟩ := h
  split at h
  · simp at h; omega
  split at h
  · simp at h; omega
  split at h
  · simp at h; omega
  split at h
  · simp at h; omega
  · cases h

/-- R38: the line bits of a body and its CRC are read as that body. -/
theorem copyBody_frame {body : List Byte} (h : bodyAgrees body = true) :
    copyBody ((body ++ bytesOf 2 (lineCrc body).toNat).flatMap lineBits) = some body := by
  obtain ⟨hmin, -⟩ := bodyAgrees_length h
  have hlen : (body ++ bytesOf 2 (lineCrc body).toNat).length = body.length + 2 := by simp [length_bytesOf]
  simp only [copyBody, gatherBytes_flatMap, length_flatMap_lineBits, hlen, Nat.add_sub_cancel, List.take_left,
    List.drop_left, numberOf_bytesOf_two]
  rw [if_pos ⟨by omega, by omega, trivial, h⟩]

/-- R38: a copy with its mark and nothing noted, on a sound pair, is GOOD with the body it gathered. -/
theorem judgeCopy_body {drive : OwnDrive} {x : PairState} {m : Time} {body : List Byte} (hj : x.copy.jabbered = false)
    (hr : readbackFails drive x = false) (hn : x.copy.noted = false) (hm : x.copy.mark = some m)
    (hb : copyBody x.copy.bits = some body) : judgeCopy drive x = (.good, some (m, body)) := by
  simp [judgeCopy, hj, hr, hn, hm, hb]

/-! ### The symbols of a frame -/

theorem codeLevels_codeOfBit (b : Bool) : codeLevels (codeOfBit b) = (b, !b) := by cases b <;> rfl

/-- Symbols as they are heard on a pair, the first of them at place `k` of the frame; `ends` gives the end of a place. -/
def heardFrom (k : Nat) (ends : Nat → Time) (codes : List LineCode) : List LineSymbol :=
  (codes.zipIdx k).map fun c =>
    { firstHalf := (codeLevels c.1).1, secondHalf := (codeLevels c.1).2, ends := ends c.2 }

theorem heardFrom_append (k : Nat) (ends : Nat → Time) (l l' : List LineCode) :
    heardFrom k ends (l ++ l') = heardFrom k ends l ++ heardFrom (k + l.length) ends l' := by
  rw [heardFrom, List.zipIdx_append, List.map_append]
  rfl

/-- R37: the symbols of bits, heard by a copy that is receiving, are gathered as those bits. -/
theorem hear_codes {c : Copy} (hn : c.noted = false) (hp : c.progress = .receiving) (k : Nat) (ends : Nat → Time)
    (bits : List Bool) (hl : c.bits.length + bits.length ≤ 528) :
    (heardFrom k ends (bits.map codeOfBit)).foldl hearSymbol c = { c with bits := c.bits ++ bits } := by
  have e : heardFrom k ends (bits.map codeOfBit)
      = ((bits.zipIdx k).map fun x => (x.1, ends x.2)).map
          fun x => ({ firstHalf := x.1, secondHalf := !x.1, ends := x.2 } : LineSymbol) := by
    simp only [heardFrom, List.zipIdx_map, List.map_map]
    exact List.map_congr_left fun x _ => by simp [codeLevels_codeOfBit]
  rw [e, hear_bits hn hp _ (by simpa using hl)]
  simp [Function.comp_def]

/-- R37, R200: a whole frame heard on a pair whose first transition is not before it. -/
theorem hear_frameCodes {body : List Byte} {first : Time} (ends : Nat → Time) (crc : BitVec 16)
    (hl : body.length ≤ 64) (hfirst : isBefore first (ends 7 - 8#32) = false) :
    (heardFrom 0 ends (frameCodes body crc)).foldl hearSymbol { Copy.fresh false with firstSeen := some first } =
      { Copy.fresh false with
        progress := .receiving, matched := 7, mark := some (ends 7), firstSeen := some first,
        bits := (body ++ bytesOf 2 crc.toNat).flatMap lineBits } := by
  have hdelimiter : (heardFrom 0 ends startDelimiter).foldl hearSymbol
      { Copy.fresh false with firstSeen := some first } =
      { Copy.fresh false with
        progress := .receiving, matched := 7, mark := some (ends 7), firstSeen := some first } := by
    refine (hear_startDelimiter rfl rfl rfl (ends 0) (ends 1) (ends 2) (ends 3) (ends 4) (ends 5) (ends 6) (ends 7)).trans ?_
    simp [hfirst, Copy.fresh]
  rw [frameCodes, heardFrom_append, List.foldl_append, hdelimiter, hear_codes rfl rfl]
  · simp [Copy.fresh]
  · rw [length_flatMap_lineBits, List.length_append, length_bytesOf]
    simp only [Copy.fresh, List.length_nil]
    omega

end Sys2Proof.Machine

namespace Sys2Proof.Settled

open Sys2Proof.Machine

/-- Settles O27: the delimiter begins the copy, the bits after it are gathered, and they are read as the body. -/
theorem lineFrameRoundTrip : Obligations.LineFrameRoundTrip := by
  intro body hb
  refine ⟨copyBody_frame hb, fun x first mark hfirst => ?_⟩
  intro symbols
  let ends : Nat → Time := fun i => mark + BitVec.ofNat 32 i - 7#32
  have hmark : ends 7 = mark := BitVec.add_sub_cancel mark 7#32
  have hheard : symbols.foldl hearSymbol { Copy.fresh false with firstSeen := some first } = _ :=
    hear_frameCodes ends (lineCrc body) ((bodyAgrees_length hb).2.trans (by decide)) (by rwa [hmark])
  rw [hheard, hmark]
  exact judgeCopy_body rfl rfl rfl rfl (copyBody_frame hb)

end Sys2Proof.Settled

/-! ## Eviction, expiry and time fields of outbound entries (R47 to R49, R54 to R56, R106) -/

namespace Sys2Proof.Machine

/-! ### The victim of a full queue (R49, R54) -/

/-- R49: x stands before y in the queue, by class and then by queuing order. -/
def StandsBefore (x y : QueueEntry) : Prop :=
  classOf x.out < classOf y.out ∨ (classOf x.out = classOf y.out ∧ x.order < y.order)

theorem victimFor_eq_none_iff {cls : Nat} {q : List QueueEntry} :
    victimFor cls q = none ↔ ∀ e ∈ q, ¬ (e.onLine = false ∧ cls < classOf e.out) := by
  rw [victimFor, List.getLast?_eq_none_iff, List.filter_eq_nil_iff]
  exact forall₂_congr fun e _ => by simp only [Bool.and_eq_true, decide_eq_true_eq, Bool.not_eq_true', and_comm]

/-- R54: in a queue kept in order, the victim stands behind every other entry that could give way. -/
theorem victimFor_last {cls : Nat} {q : List QueueEntry} {v e : QueueEntry} (hq : q.Pairwise StandsBefore)
    (hv : victimFor cls q = some v) (he : e ∈ q) (hoff : e.onLine = false) (hcls : cls < classOf e.out) :
    e = v ∨ StandsBefore e v := by
  obtain ⟨front, hfront⟩ := List.getLast?_eq_some_iff.1 hv
  have hmem : e ∈ front ++ [v] := hfront ▸ List.mem_filter.2 ⟨he, by simp [hoff, hcls]⟩
  have hsorted : (front ++ [v]).Pairwise StandsBefore := hfront ▸ hq.filter _
  obtain ⟨-, -, hbefore⟩ := List.pairwise_append.1 hsorted
  rcases List.mem_append.1 hmem with hin | hlast
  · exact .inr (hbefore e hin v (by simp))
  · exact .inl (by simpa using hlast)

/-! ### An entry's expiry (R55, R106) -/

/-- R29: a queue that becomes empty leaves a transmitter that is not in SEND in EMPTY, and ends its wait. -/
theorem setQueue_nil_transmitter {d : Device} (h : d.liu.transmitter ≠ .send) :
    (setQueue [] d).liu.transmitter = .empty
      ∧ (d.liu.transmitter ≠ .empty → (setQueue [] d).liu.waitOrigin = none ∧ (setQueue [] d).liu.slotEnd = none) := by
  have htx := (forgetCollided_transmitter { d with fx := { d.fx with queue := [] } }).1
  have hfx : (forgetCollided { d with fx := { d.fx with queue := [] } }).fx.queue = [] := by simp
  unfold setQueue followQueue
  rw [htx, hfx]
  cases ht : d.liu.transmitter with
  | empty => simp [ht]
  | waitIdle | defer => simp [transmitterEmpty]
  | send => exact absurd ht h

/-- R106: the report of a dropped entry reaches no track when its CLAIM's track is no longer held. -/
theorem reportDropped_unheld {reason : DropReason} {e : QueueEntry} {d : Device}
    (h : ∀ c, e.out = .claim c → findTrack d c.trackId = none) : reportDropped reason e d = d := by
  unfold reportDropped
  split
  · rename_i c hc
    split
    · rfl
    · simp [dropReport, h c hc]
  · rfl

theorem findEntry_order {d : Device} {order : Nat} {e : QueueEntry} (h : findEntry d order = some e) :
    e.order = order := by
  simpa using List.find?_some h

theorem entryExpires_stays {d : Device} {order : Nat} {e : QueueEntry} (h : findEntry d order = some e)
    (hk : e.onLine = true ∨ due (expiryOf e.out) d.clock = false) : entryExpires order d = d := by
  rcases hk with hk | hk <;> simp [entryExpires, h, hk]

/-- R55: an entry off the line that has expired leaves the queue. -/
theorem entryExpires_removes {d : Device} {order : Nat} {e : QueueEntry} (h : findEntry d order = some e)
    (hoff : e.onLine = false) (hdue : due (expiryOf e.out) d.clock = true)
    (hc : ∀ c, e.out = .claim c → findTrack d c.trackId = none) :
    entryExpires order d = setQueue (d.fx.queue.filter fun x => x.order != order) d := by
  have hreport : reportDropped .expired e (removeEntry order d) = removeEntry order d :=
    reportDropped_unheld fun c hout => by simpa [findTrack] using hc c hout
  simp only [entryExpires, h, hoff, hdue, expireEntry, findEntry_order h, hreport]
  rfl

/-! ### Age and lead (R47, R48, R56) -/

/-- The age of a SIGHTING, counted without sign, when its mark lies `age` after t2. -/
theorem age_of_mark {t2 mark : Time} {age : Nat} (hage : age < 2 ^ 32) (hm : mark = t2 + BitVec.ofNat 32 age) :
    (mark - t2).toNat = age := by
  subst hm
  bv_omega

end Sys2Proof.Machine

namespace Sys2Proof.Settled

open Sys2Proof.Machine

/-- Settles O29: by whether the queue holds a victim; the victim is the last of the candidates. -/
theorem fullQueueEvicts : Obligations.FullQueueEvicts := by
  intro d out hfull hsorted candidate
  rcases joinQueue_cases out d with ⟨hroom, -⟩ | ⟨-, v, hv, e⟩ | ⟨-, hv, e⟩
  · omega
  · obtain ⟨hmem, hcls, hoff⟩ := victimFor_some hv
    have hcand : candidate v := ⟨hmem, hoff, hcls⟩
    refine ⟨fun hnone => absurd hcand (hnone v), fun _ => ⟨v, hcand, ?_, by rw [e], by simp [e]⟩⟩
    rintro x ⟨hx, hxoff, hxcls⟩
    rcases victimFor_last hsorted hv hx hxoff hxcls with rfl | hlt | ⟨heq, hlt⟩
    · exact .inr ⟨rfl, le_rfl⟩
    · exact .inl hlt
    · exact .inr ⟨heq, hlt.le⟩
  · refine ⟨fun _ => e, ?_⟩
    rintro ⟨x, hx, hoff, hcls⟩
    exact absurd ⟨hoff, hcls⟩ (victimFor_eq_none_iff.1 hv x hx)

/-- Settles O34: an entry that does not expire stays; one that does leaves the queue, and no track hears of it. -/
theorem entryExpires : Obligations.EntryExpires := by
  intro t s d e order hd he
  have hx : exec (.outboundEntryExpires t order) s = taken t (Machine.entryExpires order) s := rfl
  rw [hx, taken_found _ hd]
  refine ⟨fun hk => by rw [entryExpires_stays he hk], fun hoff hdue hc => ?_⟩
  rw [entryExpires_removes he hoff hdue hc]
  obtain ⟨hbusy, -, hA, hB, -, hdriven, -, hpreferred⟩ := setQueue_line (d.fx.queue.filter fun x => x.order != order) d
  refine ⟨_, by rw [← setQueue_parts], hbusy, hdriven, hpreferred, hA, hB, fun hnil hsend => ?_⟩
  rw [hnil]
  exact setQueue_nil_transmitter hsend

/-- Settles O30: a SIGHTING by its age, a CLAIM by its lead. -/
theorem timeFieldsFixed : Obligations.TimeFieldsFixed := by
  intro d mark
  refine ⟨fun c age hage hm => ?_, fun c => ⟨fun hlo hhi => ?_, fun hlt => ?_, fun hgt => ?_⟩⟩
  · have hcount := age_of_mark hage hm
    exact ⟨fun hle => by simp [fixFrame, hcount, hle], fun hgt => by simp [fixFrame, hcount, hgt]⟩
  · refine ⟨(timeDiff c.centre mark).toNat, by omega, ?_⟩
    rw [fixFrame, if_neg (by omega), if_neg (by omega)]
  · rw [fixFrame, if_pos hlt]
  · rw [fixFrame, if_neg (by omega), if_pos hgt]

end Sys2Proof.Settled

/-! ## An accepted frame handed on (R60 to R62, R65, R66, R71 to R73, R91 to R93, R96, R106, R135 to R137, R148) -/

namespace Sys2Proof.Machine

/-! ### Receive dispatch -/

/-- R61: a frame of another station is handed on. -/
theorem dispatchFrame_other {d : Device} {mark : Time} {body : List Byte} {f : ReceivedFrame}
    (hs : frameStation body ≠ ownNumber d) (hf : readFrame body = some f) :
    dispatchFrame mark body d = handOn (frameStation body) mark f d := by
  simp [dispatchFrame, hs, hf]

/-- R62: an own frame that was sent is heard back, unless R60 discards it. -/
theorem dispatchFrame_own {d : Device} {mark : Time} {body : List Byte} (hs : frameStation body = ownNumber d)
    (hd : d.liu.ownDrive = .sent) :
    dispatchFrame mark body d = (readFrame body).elim d fun f => handOnOwn mark f d := by
  simp only [dispatchFrame, hs, hd, if_true]
  cases readFrame body <;> rfl

/-- R62: only a CLAIM heard back has an effect. -/
theorem handOnOwn_no_claim {d : Device} {mark : Time} {frame : ReceivedFrame} (h : ∀ f, frame ≠ .claim f) :
    handOnOwn mark frame d = d := by
  cases frame with
  | claim f => exact absurd rfl (h f)
  | presence _ | sighting _ | release _ => rfl

/-! ### PRESENCE (R65, R66) -/

section Station

variable {d : Device} {p : Fin 31}

theorem peer_station (h : p.val + 1 ≠ ownNumber d) : peer d (p.val + 1) = d.ptb.peers.get p := by
  simp [peer, h, show p.val + 1 ≤ 31 from p.isLt]

theorem setPeer_station (x : PeerEntry) (h : p.val + 1 ≠ ownNumber d) :
    setPeer (p.val + 1) x d = { d with ptb := { d.ptb with peers := d.ptb.peers.set p.val x p.isLt } } := by
  simp [setPeer, h, show p.val + 1 ≤ 31 from p.isLt]

theorem isNews_iff (x : PeerState) : isNews x = true ↔ x = .absent ∨ x = .lost := by cases x <;> simp [isNews]

/-- R65, R66: the entry is overwritten, and PEER_NEW latched for a station ABSENT or LOST before. -/
theorem takePresence_station (f : PresenceFrame) (mark : Time) (h : p.val + 1 ≠ ownNumber d) :
    takePresence (p.val + 1) f mark d = { d with
      rqs := { d.rqs with
        flags := if (d.ptb.peers.get p).state = .absent ∨ (d.ptb.peers.get p).state = .lost then
          d.rqs.flags ||| flagBit .peerNew else d.rqs.flags },
      ptb := { d.ptb with peers := d.ptb.peers.set p.val (presentEntry f mark) p.isLt } } := by
  simp only [takePresence, setPeer_station _ h, peer_station h, isNews_iff]
  split <;> rfl

/-! ### SIGHTING: acceptance (R71 to R73) -/

/-- R71, R73: the mark of an entry PRESENT or STALE, with STALE_SOURCE in STALE. -/
theorem acceptSighting_eq (e : PeerEntry) (pair : Fin 2) (track : Nat) :
    acceptSighting e pair track = if e.state = .absent ∨ e.state = .lost then none
      else (e.marks.find? fun m => m.pair == pair && m.track == track).map fun m => (m, decide (e.state = .stale)) := by
  cases h : e.state <;> simp [acceptSighting, h]

/-- What station `n` saw, as a gantry keeps it: D and side from the mark, t2 the age before the frame mark (R72). -/
def heardSighting (n : Nat) (f : SightingFrame) (mark : Time) (m : Mark) (stale : Bool) : Sighting :=
  { station := n, pair := f.pair, d := m.d, side := m.side, seq := f.seq, t2 := mark - BitVec.ofNat 32 f.age, v := f.v,
    band := f.band, partialHeight := f.partialHeight, forced := f.forced, staleSource := stale }

theorem shiftBy_neg (t : Time) (n : Nat) : shiftBy t (-(n : Int)) = t - BitVec.ofNat 32 n := by
  rw [shiftBy, BitVec.ofInt_neg, BitVec.ofInt_natCast, BitVec.sub_eq_add_neg]

/-- R71 to R73, R91: the sightings a station disregards. -/
theorem handOn_sighting_disregarded {f : SightingFrame} {mark : Time} (h : p.val + 1 ≠ ownNumber d)
    (hno : isCamera d = false ∨ f.track ≠ ownTrack d ∨ (d.ptb.peers.get p).state = .absent
      ∨ (d.ptb.peers.get p).state = .lost
      ∨ (d.ptb.peers.get p).marks.find? (fun m => m.pair == f.pair && m.track == f.track) = none) :
    handOn (p.val + 1) mark (.sighting f) d = d := by
  have hnotOurs (hn : ¬ (isCamera d = true ∧ f.track = ownTrack d)) : handOn (p.val + 1) mark (.sighting f) d = d := by
    simp only [handOn]
    split
    · rfl
    · exact if_neg hn
  have hrefused (hn : acceptSighting (d.ptb.peers.get p) f.pair f.track = none) :
      handOn (p.val + 1) mark (.sighting f) d = d := by simp only [handOn, peer_station h, hn]
  rcases hno with hno | hno | hno | hno | hno
  · exact hnotOurs (by simp [hno])
  · exact hnotOurs (by simp [hno])
  all_goals exact hrefused (by simp [acceptSighting_eq, hno])

/-- R71 to R73, R91: a sighting of the own track, from a mark of a station PRESENT or STALE, is taken. -/
theorem handOn_sighting_taken {f : SightingFrame} {mark : Time} {m : Mark} (h : p.val + 1 ≠ ownNumber d)
    (hcam : isCamera d = true) (htrack : f.track = ownTrack d)
    (hst : (d.ptb.peers.get p).state = .present ∨ (d.ptb.peers.get p).state = .stale)
    (hm : (d.ptb.peers.get p).marks.find? (fun m => m.pair == f.pair && m.track == f.track) = some m) :
    handOn (p.val + 1) mark (.sighting f) d =
      takeSighting (heardSighting (p.val + 1) f mark m (decide ((d.ptb.peers.get p).state = .stale))) d := by
  have hlive : ¬ ((d.ptb.peers.get p).state = .absent ∨ (d.ptb.peers.get p).state = .lost) := by
    rcases hst with hst | hst <;> simp [hst]
  simp only [handOn, peer_station h, acceptSighting_eq, if_neg hlive, hm, Option.map_some,
    if_pos (And.intro hcam htrack), shiftBy_neg]
  rfl

end Station

/-! ### SIGHTING: association (R83, R91 to R93, R96) -/

/-- A track holds a sighting of the same station, pair index and approach sequence. -/
def Holds (l : List Track) (sg : Sighting) : Prop :=
  ∃ tr ∈ l, ∃ x ∈ tr.sightings, x.station = sg.station ∧ x.pair = sg.pair ∧ x.seq = sg.seq

theorem any_sameSighting_iff (l : List Track) (sg : Sighting) :
    (l.any fun tr => tr.sightings.any (sameSighting sg)) = true ↔ Holds l sg := by
  have hsame (x : Sighting) :
      sameSighting sg x = true ↔ x.station = sg.station ∧ x.pair = sg.pair ∧ x.seq = sg.seq := by
    simp [sameSighting, sameMark, and_assoc, @eq_comm _ x.station, @eq_comm _ x.pair, @eq_comm _ x.seq]
  simp only [List.any_eq_true, hsame, Holds]

section Association

variable {d : Device} {sg : Sighting}

/-- R91: a sighting held already is disregarded. -/
theorem takeSighting_held (h : Holds d.htk.tracks sg) : takeSighting sg d = d := if_pos ((any_sameSighting_iff ..).2 h)

/-- R96: a sighting that fits no track makes one. -/
theorem takeSighting_unmatched (h : ¬ Holds d.htk.tracks sg)
    (hfit : ∀ tr ∈ d.htk.tracks, sightingFit sg tr = none) : takeSighting sg d = newTrack sg.side [sg] none d := by
  have hnone : d.htk.tracks.filterMap (sightingFit sg) = [] := List.filterMap_eq_nil_iff.2 hfit
  rw [takeSighting, if_neg (mt (any_sameSighting_iff ..).1 h), hnone]
  rfl

/-- R92, R93: a sighting that fits one track alone is stored in it; a track not yet in ARMED is predicted again. -/
theorem takeSighting_matched {tr : Track} {k : Nat} (h : ¬ Holds d.htk.tracks sg)
    (hfit : d.htk.tracks.filterMap (sightingFit sg) = [(tr, k)]) :
    takeSighting sg d = if tr.state = .armed then modifyTrack tr.id (storeSighting sg) d
      else repredict tr.id (modifyTrack tr.id (storeSighting sg) d) := by
  rw [takeSighting, if_neg (mt (any_sameSighting_iff ..).1 h), hfit]
  rfl

variable {im : Image}

/-- R96: an input out of reach is counted; one within reach makes a track where the list has a place. -/
theorem newTrack_predicted {side : Side} {sightings : List Sighting} {verify : Option VerifyEntry} {pr : Prediction}
    {stale : Bool} (hi : d.cfl.image = some im) (hp : predict sightings verify = some (pr, stale)) :
    (outOfReach im d.clock pr = true → newTrack side sightings verify d = countTooFar d)
    ∧ (outOfReach im d.clock pr = false → d.htk.tracks.length < 16 →
        newTrack side sightings verify d = createTrack im (newcomer side sightings verify pr stale) d) := by
  refine ⟨fun hfar => ?_, fun hnear hroom => ?_⟩
  · simp [newTrack, hp, hi, hfar]
  · simp [newTrack, hp, hi, hnear, hroom]

/-- R85, R88: the prediction from one sighting. -/
theorem predict_one (sg : Sighting) : predict [sg] none = some
    ({ predictOneMark sg with
        tol := if sg.staleSource then 2 * (predictOneMark sg).tol else (predictOneMark sg).tol }, sg.staleSource) := by
  cases h : sg.staleSource <;> simp [predict, widenStale, h]

/-- R96, R98: a sighting of the own track that fits no track. -/
theorem takeSighting_creates (hi : d.cfl.image = some im) (h : ¬ Holds d.htk.tracks sg)
    (hfit : ∀ tr ∈ d.htk.tracks, sightingFit sg tr = none) :
    let pr : Prediction := { predictOneMark sg with
      tol := if sg.staleSource then 2 * (predictOneMark sg).tol else (predictOneMark sg).tol }
    let horizon := pr.tPred - BitVec.ofNat 32 (im.planHorizon * 1000)
    let id := freeId (d.htk.tracks.map (·.id)) 16 d.htk.nextId
    (outOfReach im d.clock pr = true → takeSighting sg d = countTooFar d)
    ∧ (outOfReach im d.clock pr = false → d.htk.tracks.length < 16 → isAfter horizon d.clock = true →
        takeSighting sg d = { d with htk := { d.htk with
          nextId := id + 1#8, nextCreated := d.htk.nextCreated + 1,
          tracks := (insertTrack { newcomer sg.side [sg] none pr sg.staleSource with
              id := id, created := d.htk.nextCreated, missDeadline := some (missTime im pr) } d.htk.tracks).map fun x =>
            if x.id == id then { x with planHorizon := some horizon } else x } }) := by
  intro pr horizon id
  obtain ⟨hfar, hnear⟩ := newTrack_predicted (side := sg.side) hi (predict_one sg)
  have hhorizon : planHorizonTime im (newcomer sg.side [sg] none pr sg.staleSource).pred = horizon :=
    planHorizonTime_eq im pr
  rw [takeSighting_unmatched h hfit]
  refine ⟨hfar, fun hreach hroom ha => ?_⟩
  rw [hnear hreach hroom, createTrack_ahead hi hroom (by rwa [hhorizon]), hhorizon]
  rfl

/-- R93, R98: a track in PREDICTED predicted again within reach, with its plan horizon ahead, waits in its new place. -/
theorem repredict_ahead {tr : Track} {pr : Prediction} {stale : Bool} (hi : d.cfl.image = some im)
    (hfound : findTrack d tr.id = some tr) (hs : tr.state = .predicted)
    (hp : predict tr.sightings tr.verify = some (pr, stale)) (hnear : outOfReach im d.clock pr = false)
    (ha : isAfter (planHorizonTime im pr) d.clock = true) :
    repredict tr.id d = modifyTrack tr.id (fun x => { x with planHorizon := some (planHorizonTime im pr) })
      (placeTrack { markStale stale tr with pred := pr, missDeadline := some (missTime im pr) } d) := by
  have hplaced : findTrack (placeTrack { markStale stale tr with pred := pr, missDeadline := some (missTime im pr) } d)
      tr.id = some { markStale stale tr with pred := pr, missDeadline := some (missTime im pr) } :=
    find_insertTrack (tr := { markStale stale tr with pred := pr, missDeadline := some (missTime im pr) })
      fun x hx => by simpa using (List.mem_filter.1 hx).2
  simp only [repredict, hfound, hi, hp, hnear, hs, enterHorizon, hplaced, placeTrack_frame, ha, if_true]
  rfl

/-- R83, R93: a sighting that fits one track in PREDICTED alone, within reach and with the plan horizon ahead. -/
theorem takeSighting_repredicts {tr : Track} {k : Nat} {pr : Prediction} {stale : Bool} (hi : d.cfl.image = some im)
    (h : ¬ Holds d.htk.tracks sg) (hfound : findTrack d tr.id = some tr)
    (hfit : d.htk.tracks.filterMap (sightingFit sg) = [(tr, k)]) (hs : tr.state = .predicted)
    (hp : predict (joinSightings sg tr.sightings) tr.verify = some (pr, stale))
    (hnear : outOfReach im d.clock pr = false) :
    let horizon := pr.tPred - BitVec.ofNat 32 (im.planHorizon * 1000)
    isAfter horizon d.clock = true →
    takeSighting sg d = setTracks ((insertTrack { tr with
        sightings := joinSightings sg tr.sightings, pred := pr, missDeadline := some (missTime im pr),
        flags := { tr.flags with
          forced := tr.flags.forced || sg.forced, staleSource := tr.flags.staleSource || stale } }
      (d.htk.tracks.filter fun x => x.id != tr.id)).map fun x =>
        if x.id == tr.id then { x with planHorizon := some horizon } else x) d := by
  intro horizon ha
  have hstored : findTrack (modifyTrack tr.id (storeSighting sg) d) tr.id = some (storeSighting sg tr) :=
    findTrack_modifyTrack (storeSighting sg) (fun _ => rfl) hfound
  have hhorizon : planHorizonTime im pr = horizon := planHorizonTime_eq im pr
  have hagain : repredict tr.id (modifyTrack tr.id (storeSighting sg) d) = _ :=
    repredict_ahead (tr := storeSighting sg tr) (by simpa using hi) hstored hs hp (by simpa using hnear)
      (by simpa [hhorizon] using ha)
  have hfilter : (modifyTrack tr.id (storeSighting sg) d).htk.tracks.filter (fun x => x.id != tr.id)
    = d.htk.tracks.filter fun x => x.id != tr.id := filter_modifyTrack d tr.id (storeSighting sg) fun _ => rfl
  have hid : (markStale stale (storeSighting sg tr)).id = tr.id := rfl
  rw [takeSighting_matched h hfit, if_neg (by simp [hs]), hagain, hhorizon, placeTrack, hid, hfilter]
  rfl

end Association

/-! ### The claim a full list gives up (R136) -/

theorem isAfter_iff (a b : Time) : isAfter a b = true ↔ 0 < timeDiff a b := by simp [isAfter]
theorem isBefore_iff (a b : Time) : isBefore a b = true ↔ timeDiff a b < 0 := by simp [isBefore]

theorem timeDiff_swap {a b : Time} (h : 0 < timeDiff a b) : timeDiff b a = -timeDiff a b := by
  unfold timeDiff at h ⊢
  have hmin : a - b ≠ BitVec.intMin 32 := fun hm => absurd (hm ▸ h) (by decide)
  rw [← BitVec.toInt_neg_of_ne_intMin hmin]
  congr 1
  bv_omega

/-- R136: c is given up before x: it expires sooner, or at the same instant and joined earlier. -/
def GivenUpBefore (c x : NeighbourClaim) : Prop :=
  isAfter x.expiry c.expiry = true ∨ (c.expiry = x.expiry ∧ c.join < x.join)

/-- The claim to give up, once one more has been looked at. -/
def soonerOf (best : Option NeighbourClaim) (c : NeighbourClaim) : Option NeighbourClaim :=
  match best with
  | none => some c
  | some b =>
    if isBefore c.expiry b.expiry || (c.expiry == b.expiry && decide (c.join < b.join)) then some c else some b

theorem soonestClaim_eq_foldl (l : List NeighbourClaim) : soonestClaim l = l.foldl soonerOf none := rfl

section GivenUp

variable {c x : NeighbourClaim}

theorem soonerOf_moves (h : GivenUpBefore c x) : soonerOf (some x) c = some c := by
  refine if_pos ?_
  rcases h with h | ⟨he, hj⟩
  · have hpos := (isAfter_iff ..).1 h
    have hneg := timeDiff_swap hpos
    simp [(isBefore_iff c.expiry x.expiry).2 (by omega)]
  · simp [he, hj]

theorem soonerOf_stays (h : x = c ∨ GivenUpBefore c x) : soonerOf (some c) x = some c := by
  refine if_neg ?_
  rcases h with rfl | h | ⟨he, hj⟩
  · simp [isBefore, timeDiff]
  · have hpos := (isAfter_iff ..).1 h
    have hne : x.expiry ≠ c.expiry := fun he => by simp [he] at h
    simp [isBefore, hpos.le, hne]
  · simp [isBefore, timeDiff, he, hj.le]

/-- R136: the claim that every other of the list outlasts is the one given up. -/
theorem soonestClaim_of_forall {l : List NeighbourClaim} (hc : c ∈ l) (h : ∀ x ∈ l, x = c ∨ GivenUpBefore c x) :
    soonestClaim l = some c := by
  obtain ⟨front, back, rfl⟩ := List.append_of_mem hc
  have hback : ∀ x ∈ back, x = c ∨ GivenUpBefore c x := fun x hx => h x (by simp [hx])
  have hreached : soonerOf (soonestClaim front) c = some c := by
    cases hfront : soonestClaim front with
    | none => rfl
    | some b =>
      rcases h b (List.mem_append_left _ (soonestClaim_mem hfront)) with rfl | hb
      · exact soonerOf_stays (.inl rfl)
      · exact soonerOf_moves hb
  rw [soonestClaim_eq_foldl, List.foldl_append, ← soonestClaim_eq_foldl, List.foldl_cons, hreached]
  clear hc h hreached
  induction back with
  | nil => rfl
  | cons x back ih =>
    rw [List.foldl_cons, soonerOf_stays (hback x (by simp))]
    exact ih fun y hy => hback y (by simp [hy])

end GivenUp

/-! ### CLAIM and RELEASE while no own track is PLANNED, ARMED or EXPOSING (R135 to R137, R139, R150) -/

/-- No own track is PLANNED, ARMED or EXPOSING. -/
def NonePlanned (d : Device) : Prop :=
  ∀ tr ∈ d.htk.tracks, tr.state ≠ .planned ∧ tr.state ≠ .armed ∧ tr.state ≠ .exposing

theorem checkArmed_unarmed {im : Image} {own : Nat} {now : Time} {c : NeighbourClaim} {tr : Track}
    (ha : tr.state ≠ .armed) (he : tr.state ≠ .exposing) : checkArmed im own now c tr = tr := by
  unfold checkArmed
  split
  · rfl
  · simp [ha, he]

theorem resolveAll_unplanned {d : Device} (h : plannedIds d = []) : resolveAll d = d := by
  rw [resolveAll, h]
  rfl

/-- R135: the CLAIM is of an adjacent track, and its expiry lies ahead, within 10,000,000 µs. -/
def ClaimTaken (im : Image) (f : ClaimFrame) (centre now : Time) : Prop :=
  im.adjacency.getLsbD (f.track - 1) = true ∧ isAfter (claimExpiry im.guardTime centre f.n f.s f.e) now = true
    ∧ timeDiff (claimExpiry im.guardTime centre f.n f.s f.e) now < 10000000

/-- The neighbour claim an accepted CLAIM makes (R134, R135). -/
def claimEntry (im : Image) (key : ClaimKey) (f : ClaimFrame) (centre : Time) (join : Nat) : NeighbourClaim :=
  { key := key, track := f.track, flash := f.flash, centre := centre, n := f.n, s := f.s, e := f.e, tol := f.tol,
    flashed := f.flashed, join := join, expiry := claimExpiry im.guardTime centre f.n f.s f.e }

section Claims

variable {d : Device}

/-- R135: a CLAIM that is not taken removes its key. -/
theorem takeClaim_untaken {im : Image} (hi : d.cfl.image = some im) {key : ClaimKey} {f : ClaimFrame} {centre : Time}
    (h : ¬ ClaimTaken im f centre d.clock) : takeClaim key f centre d = removeClaim key d := by
  simp only [takeClaim, hi]
  by_cases hadjacent : im.adjacency.getLsbD (f.track - 1) = true
  · by_cases hahead : isAfter (claimExpiry im.guardTime centre f.n f.s f.e) d.clock = true
    · have hfar : 10000000 ≤ timeDiff (claimExpiry im.guardTime centre f.n f.s f.e) d.clock :=
        not_lt.1 fun hnear => h ⟨hadjacent, hahead, hnear⟩
      simp [hadjacent, hahead, hfar]
    · simp [hadjacent, hahead]
  · simp [hadjacent]

variable (hq : NonePlanned d)

include hq

/-- R139, R150: a change of the list then reaches no own track. -/
theorem changeClaims_unplanned (l : List NeighbourClaim) (made : Option NeighbourClaim) :
    changeClaims l made d = { d with crs := { d.crs with claims := l } } := by
  have hchecked (im : Image) (own : Nat) (now : Time) (c : NeighbourClaim) :
      d.htk.tracks.map (checkArmed im own now c) = d.htk.tracks :=
    (List.map_congr_left fun tr htr =>
      have ⟨_, harmed, hexposing⟩ := hq tr htr
      checkArmed_unarmed harmed hexposing).trans (List.map_id' _)
  have hplanned : plannedIds { d with crs := { d.crs with claims := l } } = [] := by
    simpa [plannedIds, List.filter_eq_nil_iff] using fun tr htr => (hq tr htr).1
  unfold changeClaims
  split
  · simp only [hchecked]
    exact resolveAll_unplanned hplanned
  · exact resolveAll_unplanned hplanned

/-- R137: the entry of a key leaves. -/
theorem removeClaim_unplanned (key : ClaimKey) :
    removeClaim key d = { d with crs := { d.crs with claims := d.crs.claims.filter fun c => c.key != key } } := by
  unfold removeClaim
  split
  · exact changeClaims_unplanned hq ..
  · rename_i hno
    have hall : d.crs.claims.filter (fun c => c.key != key) = d.crs.claims :=
      List.filter_eq_self.2 fun c hc => by
        simp only [List.any_eq_true, not_exists, not_and] at hno
        simpa using hno c hc
    rw [hall]

section Taken

variable {im : Image} {key : ClaimKey} {f : ClaimFrame} {centre : Time} (hi : d.cfl.image = some im)
  (h : ClaimTaken im f centre d.clock)

include hi h

/-- R135: a CLAIM of a key held takes its entry's place and its order of joining. -/
theorem takeClaim_replaces {old : NeighbourClaim} (hold : d.crs.claims.find? (fun c => c.key == key) = some old) :
    takeClaim key f centre d = { d with crs := { d.crs with
      claims := d.crs.claims.map fun c => if c.key == key then claimEntry im key f centre old.join else c } } := by
  obtain ⟨hadjacent, hahead, hnear⟩ := h
  simp only [takeClaim, hi, hadjacent, hahead, hold, if_neg (not_le.2 hnear), Bool.not_true, Bool.false_eq_true,
    if_false]
  exact changeClaims_unplanned hq ..

variable (hnew : ∀ c ∈ d.crs.claims, c.key ≠ key)

include hnew

/-- R135, R136: a CLAIM of a new key joins a list that has a place, or contends with the entry a full list gives up. -/
theorem takeClaim_new :
    let entry := claimEntry im key f centre d.crs.nextJoin
    let joined : List NeighbourClaim → Device := fun l => { d with crs :=
      { claims := l ++ [entry], nextJoin := d.crs.nextJoin + 1 } }
    takeClaim key f centre d = if d.crs.claims.length < 8 then joined d.crs.claims
      else (soonestClaim d.crs.claims).elim d fun c =>
        if isAfter entry.expiry c.expiry then joined (d.crs.claims.filter fun x => x.key != c.key) else d := by
  intro entry joined
  obtain ⟨hadjacent, hahead, hnear⟩ := h
  have hnone : d.crs.claims.find? (fun c => c.key == key) = none := by simpa using hnew
  have hchange (l : List NeighbourClaim) : changeClaims (l ++ [entry]) (some entry)
      { d with crs := { d.crs with nextJoin := d.crs.nextJoin + 1 } } = joined l :=
    changeClaims_unplanned (by exact hq) ..
  simp only [takeClaim, hi, hadjacent, hahead, hnone, if_neg (not_le.2 hnear), Bool.not_true, Bool.false_eq_true,
    if_false]
  refine if_congr Iff.rfl (hchange _) ?_
  cases soonestClaim d.crs.claims with
  | none => rfl
  | some c => exact if_congr Iff.rfl (hchange _) rfl

theorem takeClaim_joins (hroom : d.crs.claims.length < 8) :
    takeClaim key f centre d = { d with crs :=
      { claims := d.crs.claims ++ [claimEntry im key f centre d.crs.nextJoin], nextJoin := d.crs.nextJoin + 1 } } :=
  (takeClaim_new hq hi h hnew).trans (if_pos hroom)

/-- R136: a CLAIM of a new key takes the place of the entry that every other of a full list outlasts, if that one
expires sooner than the newcomer. -/
theorem takeClaim_contends {c : NeighbourClaim} (hfull : 8 ≤ d.crs.claims.length) (hc : c ∈ d.crs.claims)
    (hsoonest : ∀ x ∈ d.crs.claims, x = c ∨ GivenUpBefore c x) :
    takeClaim key f centre d = if isAfter (claimEntry im key f centre d.crs.nextJoin).expiry c.expiry then
      { d with crs :=
        { claims := (d.crs.claims.filter fun x => x.key != c.key) ++ [claimEntry im key f centre d.crs.nextJoin],
          nextJoin := d.crs.nextJoin + 1 } }
      else d := by
  rw [takeClaim_new hq hi h hnew, if_neg (not_lt.2 hfull), soonestClaim_of_forall hc hsoonest]
  rfl

end Taken

end Claims

end Sys2Proof.Machine

namespace Sys2Proof.Settled

open Sys2Proof.Machine

/-- Settles O26: the accepted frame is handed on by its station and kind, each kind by the rule of what takes it. -/
theorem presenceRefreshesPeer : Obligations.PresenceRefreshesPeer := by
  intro t s d a mark body hd hquiet ha hacc d1 outcome tracked
  have hout (d2 : Device) (h2 : dispatchFrame mark body d1 = d2) : outcome d2 := by
    have e : exec (.quietDeadlineExpires t) s = taken t quietExpires s := rfl
    have hidle : idleInstant d = d2 := (idleInstant_accepts hacc).trans h2
    simp only [outcome, e, taken_found _ hd, quietExpires_due hquiet ha, hidle]
  refine ⟨fun p hp hother => ?_, fun hown hsent => ⟨fun f hf => ?_, fun hno => ?_⟩⟩
  · have hhand (f : ReceivedFrame) (d2 : Device) (hf : readFrame body = some f)
        (h2 : handOn (p.val + 1) mark f d1 = d2) : outcome d2 :=
      hout d2 ((dispatchFrame_other (d := d1) (hp ▸ hother) hf).trans (hp ▸ h2))
    refine ⟨fun f hf => ?_, fun f im hf hi => ?_, fun hrole hq => ⟨fun f im hf hi => ?_, fun id hf => ?_⟩⟩
    · exact hhand _ _ hf (takePresence_station (d := d1) f mark hother)
    · have htrack : ownTrack d1 = im.ownTrack := by simp [d1, ownTrack, hi]
      refine ⟨fun hno => ?_, fun m hrole htr hst hm => ?_⟩
      · refine hhand _ _ hf (handOn_sighting_disregarded (d := d1) hother ?_)
        rw [htrack]
        exact hno.imp_left fun hr => by simpa [d1, isCamera] using hr
      · intro stale sg known one pr horizon
        have htake (d2 : Device) (h2 : takeSighting sg d1 = d2) : outcome d2 := hhand _ _ hf
          ((handOn_sighting_taken (d := d1) hother (isCamera_of hrole) (htr.trans htrack.symm) hst hm).trans h2)
        refine ⟨fun hk => htake _ (takeSighting_held (d := d1) hk), fun hk hfit => ?_, fun tr k hk hfound hfit =>
          ⟨fun hs => ?_, fun again wasStale hs hp hnear hahead => ?_⟩⟩
        · obtain ⟨hfar, hnear⟩ := takeSighting_creates (d := d1) (sg := sg) hi hk hfit
          exact ⟨fun ho => htake _ (hfar ho), fun ho hroom hahead => htake _ (hnear ho hroom hahead)⟩
        · exact htake _ ((takeSighting_matched (d := d1) (sg := sg) hk hfit).trans (if_pos hs))
        · exact htake _ (takeSighting_repredicts (d := d1) hi hk hfound hfit hs hp hnear hahead)
    · intro key centre expiry entry accepted
      have hq1 : NonePlanned d1 := hq
      have hi1 : d1.cfl.image = some im := hi
      have htake (d2 : Device) (h2 : takeClaim key f centre d1 = d2) : outcome d2 :=
        hhand _ _ hf ((if_pos (isCamera_of hrole)).trans h2)
      refine ⟨fun hno => htake _ ((takeClaim_untaken hi1 hno).trans (removeClaim_unplanned hq1 key)),
        fun old hin hold => htake _ (takeClaim_replaces hq1 hi1 hin hold),
        fun hin hnew hroom => htake _ (takeClaim_joins hq1 hi1 hin hnew hroom), fun c hc hin hnew hfull hsoonest => ?_⟩
      have hcontends := takeClaim_contends hq1 hi1 hin hnew hfull hc hsoonest
      exact ⟨fun hlater => htake _ (hcontends.trans (if_pos hlater)),
        fun hsooner => htake _ (hcontends.trans (if_neg (Bool.eq_false_iff.1 hsooner)))⟩
    · exact hhand _ _ hf ((if_pos (isCamera_of hrole)).trans (removeClaim_unplanned (d := d1) hq _))
  · exact hout _ ((dispatchFrame_own (d := d1) hown hsent).trans (by rw [hf]; rfl))
  · refine hout _ ((dispatchFrame_own (d := d1) hown hsent).trans ?_)
    cases hf : readFrame body with
    | none => rfl
    | some f => exact handOnOwn_no_claim fun c hc => hno c (hc ▸ hf)

end Sys2Proof.Settled

/-! ## The freshness deadlines of a peer entry (R67, R68) -/

namespace Sys2Proof.Machine

section Freshness

variable {d : Device} {p : Fin 31} {a : Time}

theorem staleExpires_station (h : p.val + 1 ≠ ownNumber d) (hs : (d.ptb.peers.get p).state = .present)
    (hd : (d.ptb.peers.get p).staleDeadline = some a) (ha : isAfter a d.clock = false) :
    staleExpires (p.val + 1) d = { d with
      ptb := { d.ptb with
        peers := d.ptb.peers.set p.val { d.ptb.peers.get p with state := .stale, staleDeadline := none } p.isLt } } := by
  simp only [staleExpires, peer_station h]
  rw [if_pos ⟨hs, due_of_reached hd ha⟩, setPeer_station _ h]

theorem lostExpires_station (h : p.val + 1 ≠ ownNumber d) (hs : (d.ptb.peers.get p).state = .stale)
    (hd : (d.ptb.peers.get p).lostDeadline = some a) (ha : isAfter a d.clock = false) :
    lostExpires (p.val + 1) d = raise .peerLost { d with
      ptb := { d.ptb with
        peers := d.ptb.peers.set p.val { d.ptb.peers.get p with state := .lost, lostDeadline := none } p.isLt } } := by
  simp only [lostExpires, peer_station h]
  rw [if_pos ⟨hs, due_of_reached hd ha⟩, setPeer_station _ h]

end Freshness

end Sys2Proof.Machine

namespace Sys2Proof.Settled

open Sys2Proof.Machine

/-- Settles O36: each deadline finds the entry in the state it ages and is due. -/
theorem peersAge : Obligations.PeersAge := by
  intro t s d p a hd hown ha e
  refine ⟨fun hs hdl => ?_, fun hs hdl => ?_⟩
  · have hx : exec (.staleDeadlineExpires t (p.val + 1)) s = taken t (staleExpires (p.val + 1)) s := rfl
    rw [hx, taken_found _ hd, staleExpires_station hown hs hdl ha]
  · have hx : exec (.lostDeadlineExpires t (p.val + 1)) s = taken t (lostExpires (p.val + 1)) s := rfl
    rw [hx, taken_found _ hd, lostExpires_station hown hs hdl ha]
    rfl

end Sys2Proof.Settled

/-! ## A plan as the Capture Planner forms it (R113 to R119, R121 to R123) -/

namespace Sys2Proof.Machine

/-! ### Rounding and clamping -/

theorem le_clampNat {lo hi : Nat} (x : Nat) (h : lo ≤ hi) : lo ≤ clampNat lo hi x := by
  unfold clampNat
  split
  · exact le_rfl
  · split <;> omega

theorem clampNat_of_within {lo hi x : Nat} (hlo : lo ≤ x) (hhi : x ≤ hi) : clampNat lo hi x = x := by
  rw [clampNat, if_neg (by omega), if_neg (by omega)]

/-- A signed number is rounded by its size, so that halves go away from zero. -/
theorem roundInt_bounds (x : Int) {d : Nat} (hd : 0 < d) :
    (0 ≤ x → 2 * roundInt x d * d ≤ 2 * x + d ∧ 2 * x + d < 2 * (roundInt x d + 1) * d)
      ∧ (x < 0 → 2 * -roundInt x d * d ≤ 2 * -x + d ∧ 2 * -x + d < 2 * (-roundInt x d + 1) * d) := by
  obtain ⟨hlow, hhigh⟩ := roundNat_bounds x.natAbs hd
  refine ⟨fun hx => ?_, fun hx => ?_⟩
  · have hsize : (x.natAbs : Int) = x := Int.natAbs_of_nonneg hx
    rw [roundInt, if_neg (by omega), ← hsize]
    exact ⟨by exact_mod_cast hlow, by exact_mod_cast hhigh⟩
  · have hsize : (x.natAbs : Int) = -x := Int.ofNat_natAbs_of_nonpos hx.le
    rw [roundInt, if_pos hx, neg_neg, ← hsize]
    exact ⟨by exact_mod_cast hlow, by exact_mod_cast hhigh⟩

/-! ### The planning quantities of a loaded configuration (TABLE 6-2, R193) -/

/-- The ranges of TABLE 6-2 that bound the sizes of a plan. -/
structure PlanRanges (im : Image) : Prop where
  baseCode : im.stripBaseCode ≤ 3
  stripAdd : im.stripAdd ≤ 15
  rowTime : 1000 ≤ im.rowTime ∧ im.rowTime ≤ 20000
  recovery : 50 ≤ im.recovery ∧ im.recovery ≤ 5000
  zone : 150 ≤ im.zone ∧ im.zone ≤ 2000
  eMax : 20 ≤ im.eMax
  nMax : 1 ≤ im.nMax ∧ im.nMax ≤ 4

theorem readImage_baseCode (page : List Byte) : (readImage page).stripBaseCode ≤ 3 := by
  change (if numberAt page 72 1 ≤ 3 then numberAt page 72 1 else 2) ≤ 3
  split <;> omega

theorem imageOf_planRanges (role : Role) (page : List Byte) : PlanRanges (imageOf role page) := by
  cases role <;> exact
    { baseCode := readImage_baseCode page
      stripAdd := clampNat_le (lo := 0) _ (by decide)
      rowTime := ⟨le_clampNat _ (by decide), clampNat_le _ (by decide)⟩
      recovery := ⟨le_clampNat _ (by decide), clampNat_le _ (by decide)⟩
      zone := ⟨le_clampNat _ (by decide), clampNat_le _ (by decide)⟩
      eMax := le_clampNat _ (by decide)
      nMax := ⟨le_clampNat _ (by decide), clampNat_le _ (by decide)⟩ }

/-! ### Window and readout (R113 to R115) -/

section Ranges

variable {im : Image}

/-- R113: between 64 and 752 rows. -/
theorem stripRows_bounds (h : PlanRanges im) : 64 ≤ stripRows im ∧ stripRows im ≤ 752 := by
  have hbase : 2 ^ 0 ≤ 2 ^ im.stripBaseCode := Nat.pow_le_pow_right (by decide) (Nat.zero_le _)
  have htop : 2 ^ im.stripBaseCode ≤ 2 ^ 3 := Nat.pow_le_pow_right (by decide) h.baseCode
  have hadd := h.stripAdd
  unfold stripRows
  omega

theorem window_strip (low high : Nat) (he : im.stripEnable = true) :
    window im (some (low, high)) = (.strip, stripRows im, stripTop im low high) := by
  simp only [window, he]

theorem window_full {band : Option (Nat × Nat)} (h : band = none ∨ im.stripEnable = false) :
    window im band = (.full, 2048, 0) := by
  rcases h with rfl | he
  · rfl
  · cases band with
    | none => rfl
    | some b => simp only [window, he]

/-- R114: the top is the mid height's row less half the rows, held on the sensor. -/
theorem stripTop_eq (h : PlanRanges im) (low high : Nat) :
    (stripTop im low high : Int) = max 0 (min ((2048 : Int) - stripRows im)
      (im.rowRef + roundInt (((im.hRef : Int) - ((low + high) / 2 : Nat)) * im.rowsPerM) 1000
        - (stripRows im / 2 : Nat))) := by
  have hrows := stripRows_bounds h
  rw [stripTop, clampInt_eq _ (Int.natCast_nonneg _), Int.toNat_of_nonneg (le_max_left _ _)]
  push_cast [show stripRows im ≤ 2048 by omega]
  rfl

/-- The window is a strip or the whole sensor, and lies on it. -/
theorem window_on_sensor (h : PlanRanges im) (band : Option (Nat × Nat)) :
    64 ≤ (window im band).2.1 ∧ (window im band).2.2 + (window im band).2.1 ≤ 2048 := by
  have hrows := stripRows_bounds h
  have hchoice : (band = none ∨ im.stripEnable = false) ∨ ∃ b, band = some b ∧ im.stripEnable = true := by
    cases band <;> simp
  rcases hchoice with hfull | ⟨⟨low, high⟩, rfl, he⟩
  · rw [window_full hfull]
    exact ⟨by decide, by decide⟩
  · have htop := stripTop_eq h low high
    rw [window_strip low high he]
    exact ⟨hrows.1, by simp only; omega⟩

/-- R115: the bounds of R over every row count of a window. -/
theorem readout_bounds (h : PlanRanges im) {rows : Nat} (hlow : 64 ≤ rows) (hhigh : rows ≤ 2048) :
    114 ≤ readout im rows ∧ readout im rows ≤ 45960 := by
  have hmin : 64 * 1000 ≤ rows * im.rowTime := Nat.mul_le_mul hlow h.rowTime.1
  have hmax : rows * im.rowTime ≤ 2048 * 20000 := Nat.mul_le_mul hhigh h.rowTime.2
  have hrec := h.recovery
  unfold readout ceilDiv
  omega

/-! ### Sizes of a burst (R116 to R118) -/

/-- R116: the bounds of S_z over every zone length and speed. -/
theorem zoneStep_bounds (h : PlanRanges im) {vg : Nat} (hlow : 500 ≤ vg) (hhigh : vg ≤ 120000) :
    1250 ≤ zoneStep im vg ∧ zoneStep im vg ≤ 4000000 := by
  have hz := h.zone
  refine ⟨(Nat.le_div_iff_mul_le (by omega)).2 (by omega), ?_⟩
  calc im.zone * 1000000 / vg ≤ 2000 * 1000000 / 500 := Nat.div_le_div (by omega) hlow (by decide)
    _ = 4000000 := by decide

/-- R116: a burst has one to four frames. -/
theorem burstSize_bounds (h : PlanRanges im) (tol sz : Nat) :
    1 ≤ min (uncappedSize tol sz) im.nMax ∧ min (uncappedSize tol sz) im.nMax ≤ 4 := by
  have hone : 1 ≤ uncappedSize tol sz := le_max_left _ _
  have hn := h.nMax
  omega

end Ranges

/-- R117: S is even, and the least such number that neither S_z nor R exceeds. -/
theorem spacing_least (sz r : Nat) :
    spacing sz r % 2 = 0 ∧ sz ≤ spacing sz r ∧ r ≤ spacing sz r ∧ spacing sz r ≤ max sz r + 1 := by
  unfold spacing
  omega

/-- R117: an even spacing makes the halving exact. -/
theorem two_mul_offsetOf (n k : Nat) {s : Nat} (hs : s % 2 = 0) :
    2 * offsetOf n s k = (2 * (k : Int) - ((n : Int) - 1)) * s := by
  have heven : (2 : Int) ∣ s := by omega
  exact Int.mul_ediv_cancel' (heven.mul_left _)

@[simp] theorem length_offsetsOf (n s : Nat) : (offsetsOf n s).length = n := by simp [offsetsOf]

theorem getD_offsetsOf {n k : Nat} (s : Nat) (hk : k < n) : (offsetsOf n s).getD k 0 = offsetOf n s k := by
  simp [offsetsOf, hk]

/-! ### The time fields (R122, R123) -/

@[simp] theorem shiftBy_shiftBy (t : Time) (i j : Int) : shiftBy (shiftBy t i) j = shiftBy t (i + j) := by
  simp [shiftBy, BitVec.ofInt_add, BitVec.add_assoc]

@[simp] theorem length_withShift_flashTimes (im : Image) (sigma : Int) (p : Plan) :
    (withShift im sigma p).flashTimes.length = p.offsets.length := by simp [withShift]

@[simp] theorem length_withShift_pulses (im : Image) (sigma : Int) (p : Plan) :
    (withShift im sigma p).pulses.length = p.offsets.length := by simp [withShift]

theorem getD_withShift_flashTimes (im : Image) (sigma : Int) {p : Plan} {k : Nat} (hk : k < p.offsets.length) :
    (withShift im sigma p).flashTimes.getD k 0#32
      = shiftBy p.tPred (sigma + p.offsets.getD k 0 - (p.e / 2 : Nat)) := by
  simp [withShift, hk, Int.sub_eq_add_neg]

theorem getD_withShift_pulses (im : Image) (sigma : Int) {p : Plan} {k : Nat} (hk : k < p.offsets.length) :
    (withShift im sigma p).pulses.getD k 0#32
      = shiftBy p.tPred (sigma + p.offsets.getD k 0 - (p.e / 2 : Nat) - im.triggerLatency) := by
  simp [withShift, hk, Int.sub_eq_add_neg]

theorem withShift_armPoint (im : Image) (sigma : Int) {p : Plan} (hk : 0 < p.offsets.length) :
    (withShift im sigma p).armPoint = (withShift im sigma p).pulses.getD 0 0#32 - BitVec.ofNat 32 im.armLead := by
  obtain ⟨o, rest, ho⟩ := List.exists_cons_of_length_pos hk
  simp [withShift, ho, shiftBy, BitVec.ofInt_neg, BitVec.sub_eq_add_neg]

/-! ### The flashed frames (R119 to R121) -/

theorem length_gainSteps (im : Image) (n : Nat) (flashed : List Nat) : (gainSteps im n flashed).length = n := by
  simp [gainSteps]

theorem getD_gainSteps (im : Image) {n k : Nat} (flashed : List Nat) (hk : k < n) :
    (gainSteps im n flashed).getD k 0 = if k ∈ flashed then 0 else im.gainBoost := by
  simp [gainSteps, hk]

/-- R121, TABLE 6-3: frame j is asked before frame k, having the smaller offset, or the same and the smaller index. -/
abbrev AskedBefore (offsets : List Int) (j k : Nat) : Prop :=
  (offsets.getD j 0).natAbs < (offsets.getD k 0).natAbs
    ∨ ((offsets.getD j 0).natAbs = (offsets.getD k 0).natAbs ∧ j < k)

theorem mem_takingOrder {n : Nat} (hlow : 1 ≤ n) (hhigh : n ≤ 4) (k : Nat) : k ∈ takingOrder n ↔ k < n := by
  interval_cases n <;> simp [takingOrder] <;> omega

/-- TABLE 6-3 lists the frames by offset, the earlier first on a tie. -/
theorem takingOrder_pairwise {n s : Nat} (hlow : 1 ≤ n) (hhigh : n ≤ 4) (hs : 0 < s) (heven : s % 2 = 0) :
    (takingOrder n).Pairwise (AskedBefore (offsetsOf n s)) := by
  interval_cases n <;> simp [takingOrder, AskedBefore, offsetsOf, offsetOf] <;> omega

section Flashed

variable (im : Image) (flashTimes : List Time) (previous : Option Time)

theorem mayFlash_iff (chosen : List Nat) (k : Nat) :
    mayFlash im flashTimes previous chosen k = true ↔ chosen.length < im.pMax
      ∧ (∀ j ∈ chosen, im.flashSpacing ≤ (timeDiff (flashTimes.getD k 0#32) (flashTimes.getD j 0#32)).natAbs)
      ∧ (∀ t, previous = some t → im.flashSpacing ≤ (timeDiff (flashTimes.getD k 0#32) t).natAbs) := by
  cases previous <;> simp [mayFlash, and_assoc]

/-- R121: the frames added when frames are asked in an order. -/
def addedFrames (order : List Nat) : List Nat :=
  order.foldl (fun acc k => if mayFlash im flashTimes previous acc k then acc ++ [k] else acc) []

theorem mem_chooseFlashed_iff_added {n k : Nat} :
    k ∈ chooseFlashed im n flashTimes previous ↔ k < n ∧ k ∈ addedFrames im flashTimes previous (takingOrder n) := by
  simp [chooseFlashed, addedFrames]

theorem chooseFlashed_sorted (n : Nat) : (chooseFlashed im n flashTimes previous).Pairwise (· < ·) :=
  List.pairwise_lt_range.filter _

theorem addedFrames_concat (order : List Nat) (k : Nat) :
    addedFrames im flashTimes previous (order ++ [k])
      = if mayFlash im flashTimes previous (addedFrames im flashTimes previous order) k
        then addedFrames im flashTimes previous order ++ [k] else addedFrames im flashTimes previous order := by
  rw [addedFrames, List.foldl_concat]
  rfl

/-- Asking further frames only adds some of these. -/
theorem addedFrames_append (front back : List Nat) :
    ∃ more, more.Sublist back
      ∧ addedFrames im flashTimes previous (front ++ back) = addedFrames im flashTimes previous front ++ more := by
  induction back using List.reverseRecOn with
  | nil => exact ⟨[], List.Sublist.refl _, by simp⟩
  | append_singleton back k ih =>
    obtain ⟨more, hmore, heq⟩ := ih
    rw [← List.append_assoc, addedFrames_concat, heq]
    split
    · exact ⟨more ++ [k], hmore.append (List.Sublist.refl _), List.append_assoc ..⟩
    · exact ⟨more, hmore.trans (List.sublist_append_left ..), rfl⟩

theorem addedFrames_sublist (order : List Nat) : (addedFrames im flashTimes previous order).Sublist order := by
  obtain ⟨more, hmore, heq⟩ := addedFrames_append im flashTimes previous [] order
  exact heq ▸ hmore

/-- R119: no more than P_max frames are added. -/
theorem length_addedFrames_le (order : List Nat) : (addedFrames im flashTimes previous order).length ≤ im.pMax := by
  induction order using List.reverseRecOn with
  | nil => exact Nat.zero_le _
  | append_singleton order k ih =>
    rw [addedFrames_concat]
    split
    · rename_i hk
      simpa using ((mayFlash_iff im flashTimes previous _ k).1 hk).1
    · exact ih

theorem length_chooseFlashed_le (n : Nat) : (chooseFlashed im n flashTimes previous).length ≤ im.pMax := by
  have hsub : chooseFlashed im n flashTimes previous ⊆ addedFrames im flashTimes previous (takingOrder n) :=
    fun _ hk => ((mem_chooseFlashed_iff_added im flashTimes previous).1 hk).2
  exact ((chooseFlashed_sorted im flashTimes previous n).nodup.subperm hsub).length_le.trans
    (length_addedFrames_le im flashTimes previous _)

/-- A frame is added by the answer of R121 against the frames added before it was asked. -/
theorem mem_addedFrames_iff {front back : List Nat} {k : Nat} (h : (front ++ k :: back).Nodup) :
    k ∈ addedFrames im flashTimes previous (front ++ k :: back)
      ↔ mayFlash im flashTimes previous (addedFrames im flashTimes previous front) k = true := by
  obtain ⟨more, hmore, heq⟩ := addedFrames_append im flashTimes previous (front ++ [k]) back
  obtain ⟨-, hback, hdisjoint⟩ := List.nodup_append.1 h
  have hlater : k ∉ more := fun hk => (List.nodup_cons.1 hback).1 (hmore.subset hk)
  have hearlier : k ∉ addedFrames im flashTimes previous front :=
    fun hk => hdisjoint k ((addedFrames_sublist im flashTimes previous front).subset hk) k (by simp) rfl
  rw [List.append_cons, heq, List.mem_append, or_iff_left hlater, addedFrames_concat]
  split <;> simp_all

/-- R121: the frames added before k was asked are the flashed frames that are asked before k. -/
theorem flashed_before_perm {n : Nat} {offsets : List Int} {front back : List Nat} {k : Nat}
    (horder : takingOrder n = front ++ k :: back) (hmem : ∀ j ∈ takingOrder n, j < n)
    (hsorted : (takingOrder n).Pairwise (AskedBefore offsets)) :
    ((chooseFlashed im n flashTimes previous).filter fun j => decide (AskedBefore offsets j k)).Perm
      (addedFrames im flashTimes previous front) := by
  rw [horder] at hsorted
  obtain ⟨hfront, hback, hcross⟩ := List.pairwise_append.1 hsorted
  have hnodup : front.Nodup := hfront.imp fun {a b} hab hne => by subst hne; unfold AskedBefore at hab; omega
  refine (List.perm_ext_iff_of_nodup ((chooseFlashed_sorted im flashTimes previous n).nodup.filter _)
    ((addedFrames_sublist im flashTimes previous front).nodup hnodup)).2 fun j => ?_
  obtain ⟨more, hmore, heq⟩ := addedFrames_append im flashTimes previous front (k :: back)
  rw [List.mem_filter, mem_chooseFlashed_iff_added, horder, heq, List.mem_append, decide_eq_true_iff]
  refine ⟨fun ⟨⟨_, hj⟩, hjk⟩ => hj.resolve_right fun hin => ?_, fun hj => ?_⟩
  · have hkj : j = k ∨ AskedBefore offsets k j :=
      (List.mem_cons.1 (hmore.subset hin)).imp_right ((List.pairwise_cons.1 hback).1 j)
    unfold AskedBefore at hjk hkj
    rcases hkj with rfl | hkj <;> omega
  · have hin : j ∈ front := (addedFrames_sublist im flashTimes previous front).subset hj
    exact ⟨⟨hmem j (horder ▸ List.mem_append_left _ hin), .inl hj⟩, hcross j hin k List.mem_cons_self⟩

/-- R121: a frame is flashed by the answer it gets against the flashed frames asked before it. -/
theorem mem_chooseFlashed_iff {n s k : Nat} (hlow : 1 ≤ n) (hhigh : n ≤ 4) (hs : 0 < s) (heven : s % 2 = 0)
    (hk : k < n) :
    k ∈ chooseFlashed im n flashTimes previous ↔ mayFlash im flashTimes previous
      ((chooseFlashed im n flashTimes previous).filter fun j => decide (AskedBefore (offsetsOf n s) j k)) k = true := by
  have hsorted := takingOrder_pairwise hlow hhigh hs heven
  have hnodup : (takingOrder n).Nodup :=
    hsorted.imp fun {a b} hab hne => by subst hne; unfold AskedBefore at hab; omega
  obtain ⟨front, back, horder⟩ := List.append_of_mem ((mem_takingOrder hlow hhigh k).2 hk)
  have hperm := flashed_before_perm im flashTimes previous horder
    (fun j => (mem_takingOrder hlow hhigh j).1) hsorted
  have hadded := mem_addedFrames_iff im flashTimes previous (horder ▸ hnodup)
  rw [mem_chooseFlashed_iff_added, and_iff_right hk, horder, hadded]
  simp only [mayFlash_iff, hperm.length_eq, hperm.mem_iff]

end Flashed

/-! ### The plan as formed (R112, R122, R123) -/

/-- The times of a plan as formed are those of the shift 0. -/
theorem withShift_formPlan (im : Image) (available : Bool) (previous : Option Time) (pred : Prediction)
    (band : Option (Nat × Nat)) :
    withShift im 0 (formPlan im available previous pred band).1 = (formPlan im available previous pred band).1 := rfl

end Sys2Proof.Machine

namespace Sys2Proof.Settled

open Sys2Proof.Machine

/-- Settles O38: the sizes by the ranges of the configuration, the times as those of the shift 0, the flashed frames by
TABLE 6-3, whose order is that of the offsets. -/
theorem planFormed : Obligations.PlanFormed := by
  intro role page available previous pred band hslow hfast _ _ im p f uncapped
  have h : PlanRanges im := imageOf_planRanges role page
  have hwindow : (p.format, p.rows, p.top) = window im band := rfl
  have hsensor : 64 ≤ p.rows ∧ p.top + p.rows ≤ 2048 := window_on_sensor h band
  have hr : 114 ≤ p.r ∧ p.r ≤ 45960 := readout_bounds h (rows := p.rows) hsensor.1 (by omega)
  have hz : 1250 ≤ p.sz ∧ p.sz ≤ 4000000 := zoneStep_bounds h hslow hfast
  have hn : 1 ≤ p.n ∧ p.n ≤ 4 := burstSize_bounds h pred.tol p.sz
  obtain ⟨heven, hsz, hsr, hleast⟩ : p.s % 2 = 0 ∧ p.sz ≤ p.s ∧ p.r ≤ p.s ∧ p.s ≤ max p.sz p.r + 1 :=
    spacing_least p.sz p.r
  have hemax : 2 ≤ im.eMax := (by decide : 2 ≤ 20).trans h.eMax
  have hlen : p.offsets.length = p.n := length_offsetsOf p.n p.s
  have htimes : withShift im 0 p = p := withShift_formPlan im available previous pred band
  have hflashed : p.flashed = if available then chooseFlashed im p.n p.flashTimes previous else [] := rfl
  have hlist : p.flashed.length ≤ im.pMax ∧ p.flashed.Pairwise (· < ·) ∧ ∀ k ∈ p.flashed, k < p.n := by
    rw [hflashed]
    split
    · exact ⟨length_chooseFlashed_le im _ previous _, chooseFlashed_sorted im _ previous _,
        fun k hk => ((mem_chooseFlashed_iff_added im _ previous).1 hk).1⟩
    · exact ⟨Nat.zero_le _, .nil, nofun⟩
  refine ⟨fun ⟨hb, he⟩ => ?strip, fun hfull => by simpa using hwindow.trans (window_full hfull), hsensor.2,
    fun low high hb he => ?top, rfl, hr.1, hr.2, rfl, hz.1, hz.2, rfl, hn.1, hn.2, heven, hsz, hsr, hleast,
    le_clampNat _ hemax, clampNat_le _ hemax, fun hhi hlo => clampNat_of_within hlo hhi, rfl, rfl, rfl, hlen,
    (length_withShift_pulses im 0 p).trans hlen, (length_withShift_flashTimes im 0 p).trans hlen,
    length_gainSteps im p.n p.flashed, fun k hk => ⟨?offset, ?flashTime, ?pulse, getD_gainSteps im p.flashed hk⟩,
    withShift_armPoint im 0 (hlen ▸ hn.1), hlist.1, hlist.2.1, hlist.2.2, fun k hk ha => ?chosen,
    fun ha => by rw [hflashed, ha]; rfl, rfl, (Bool.decide_or _ _).symm, rfl⟩
  case strip =>
    obtain ⟨⟨low, high⟩, rfl⟩ := Option.isSome_iff_exists.1 hb
    obtain ⟨hformat, hrows, -⟩ : p.format = .strip ∧ p.rows = stripRows im ∧ p.top = stripTop im low high := by
      simpa using hwindow.trans (window_strip low high he)
    exact ⟨hformat, hrows, hrows ▸ (stripRows_bounds h).2⟩
  case top =>
    subst hb
    obtain ⟨-, hrows, htop⟩ : p.format = .strip ∧ p.rows = stripRows im ∧ p.top = stripTop im low high := by
      simpa using hwindow.trans (window_strip low high he)
    intro above
    obtain ⟨hup, hdown⟩ := roundInt_bounds above (d := 1000) (by decide)
    refine ⟨roundInt above 1000, fun ha => ?_, fun ha => ?_, by rw [hrows, htop]; exact stripTop_eq h low high⟩
    · have := hup ha
      omega
    · have := hdown ha
      omega
  case offset =>
    have hoffset : p.offsets.getD k 0 = offsetOf p.n p.s k := getD_offsetsOf p.s hk
    rw [hoffset]
    exact two_mul_offsetOf p.n k heven
  case flashTime =>
    have htime := getD_withShift_flashTimes im 0 (hlen ▸ hk)
    rwa [htimes, zero_add] at htime
  case pulse =>
    have htime := getD_withShift_pulses im 0 (hlen ▸ hk)
    rwa [htimes, zero_add] at htime
  case chosen =>
    rw [hflashed, if_pos ha]
    exact (mem_chooseFlashed_iff im p.flashTimes previous hn.1 hn.2 (by omega) heven hk).trans
      (mayFlash_iff im p.flashTimes previous _ k)

end Sys2Proof.Settled

/-! ## A neighbour claim at its expiry deadline, and a frame at its flash instant (R138, R139, R151, R167, R168) -/

namespace Sys2Proof.Machine

/-! ### The claim list after a removal -/

/-- R141 to R147: what resolution may write of the part. -/
theorem resolveAll_writes (d : Device) :
    resolveAll d = { d with
      liu := (resolveAll d).liu, fx := (resolveAll d).fx, htk := (resolveAll d).htk,
      cdu := (resolveAll d).cdu, fdu := (resolveAll d).fdu, rqs := (resolveAll d).rqs } := by
  obtain ⟨hclock, hpins, hcfl, hciu, hptb, hcpl, hcrs⟩ := resolveAll_frame d
  rw [← hclock, ← hpins, ← hcfl, ← hciu, ← hptb, ← hcpl, ← hcrs]

section Expiry

variable {d : Device} {key : ClaimKey} {c : NeighbourClaim} (hc : d.crs.claims.find? (fun x => x.key == key) = some c)

include hc

/-- R138, R139: an entry that is held leaves, and the PLANNED tracks are resolved again. -/
theorem removeClaim_held :
    removeClaim key d =
      resolveAll { d with crs := { d.crs with claims := d.crs.claims.filter fun x => x.key != c.key } } := by
  have hkey : c.key = key := by simpa using List.find?_some hc
  rw [removeClaim, if_pos (List.any_eq_true.2 ⟨c, List.mem_of_find?_eq_some hc, by simp [hkey]⟩), hkey]
  rfl

theorem claimExpires_ahead (ha : isAfter c.expiry d.clock = true) : claimExpires key d = d := by
  simp [claimExpires, hc, ha]

theorem claimExpires_reached (ha : isAfter c.expiry d.clock = false) :
    claimExpires key d =
      resolveAll { d with crs := { d.crs with claims := d.crs.claims.filter fun x => x.key != c.key } } := by
  simp [claimExpires, hc, ha, removeClaim_held hc]

end Expiry

/-! ### A flash value reported to a track that stays open -/

/-- A track with this id has a frame without camera outcome. -/
def StaysOpen (id : Byte) (d : Device) : Prop :=
  ∀ tr ∈ d.htk.tracks, tr.id = id → ∃ f ∈ tr.frames, f.outcome = none

/-- R105: a track with a frame that has no camera outcome does not close. -/
theorem closeIfSettled_open {id : Byte} {d : Device} (h : StaysOpen id d) : closeIfSettled id d = d := by
  unfold closeIfSettled
  split
  · rfl
  · rename_i tr hfound
    obtain ⟨hmem, hid⟩ := findTrack_some hfound
    obtain ⟨f, hf, hopen⟩ := h tr hmem hid
    have hunsettled : tr.frames.all frameSettled = false :=
      List.all_eq_false.2 ⟨f, hf, by simp [frameSettled, hopen]⟩
    simp [hunsettled]

/-- A change of tracks that keeps ids and camera outcomes leaves them open. -/
theorem StaysOpen.modifyTrack {id : Byte} {d : Device} (h : StaysOpen id d) (f : Track → Track)
    (hf : ∀ tr, (∃ y ∈ tr.frames, y.outcome = none) → ∃ y ∈ (f tr).frames, y.outcome = none) :
    StaysOpen id (modifyTrack id f d) := by
  intro tr' htr' hid
  obtain ⟨tr, htr, rfl⟩ := List.mem_map.1 htr'
  by_cases hsame : tr.id = id
  · simpa [hsame] using hf tr (h tr htr hsame)
  · simp [hsame] at hid

theorem modifyTrack_modifyTrack (id : Byte) (f g : Track → Track) (hf : ∀ tr, (f tr).id = tr.id) (d : Device) :
    modifyTrack id g (modifyTrack id f d) = modifyTrack id (fun tr => g (f tr)) d := by
  have h (tr : Track) : (if (if tr.id == id then f tr else tr).id == id then g (if tr.id == id then f tr else tr)
      else if tr.id == id then f tr else tr) = if tr.id == id then g (f tr) else tr := by
    by_cases hid : tr.id = id <;> simp [hid, hf]
  simp only [modifyTrack, setTracks, List.map_map, Function.comp_def, h]

/-- R104, R151: a track told the flash value of its frame k, and whether the co-lit source was lost. -/
def flashTold (k : Nat) (v : FlashValue) (fired lost : Bool) (tr : Track) : Track :=
  { tr with
    flags := { tr.flags with coLitLost := tr.flags.coLitLost || lost },
    frames := tr.frames.map fun y =>
      if y.index == k then { y with flash := v, flashReported := true, ownFired := fired } else y }

theorem flashTold_open {tr : Track} (k : Nat) (v : FlashValue) (fired lost : Bool)
    (h : ∃ y ∈ tr.frames, y.outcome = none) : ∃ y ∈ (flashTold k v fired lost tr).frames, y.outcome = none := by
  obtain ⟨y, hy, hopen⟩ := h
  exact ⟨_, List.mem_map_of_mem hy, by split <;> exact hopen⟩

section Flash

variable {d : Device}

/-- R104, R151: the report of a flash value, after CO_LIT_LOST or without it, to a track that stays open. -/
theorem reportFlash_open {id : Byte} (h : StaysOpen id d) (k : Nat) (v : FlashValue) (fired lost : Bool) :
    reportFlash id k v fired (if lost then loseCoLit id d else d) = modifyTrack id (flashTold k v fired lost) d := by
  have htold : modifyFrame id k (fun x => { x with flash := v, flashReported := true, ownFired := fired })
      (if lost then loseCoLit id d else d) = modifyTrack id (flashTold k v fired lost) d := by
    cases lost
    · exact congrArg (modifyTrack id · d) (funext fun tr => by simp [flashTold])
    · rw [if_pos rfl, modifyFrame, loseCoLit, modifyTrack_modifyTrack]
      · exact congrArg (modifyTrack id · d) (funext fun tr => by simp [flashTold])
      · exact fun _ => rfl
  rw [reportFlash, htold]
  exact closeIfSettled_open (h.modifyTrack _ fun _ => flashTold_open k v fired lost)

variable {im : Image} {x : FlashDecision}

/-- R167: the own flash fires when it is allowed and is NONE otherwise. -/
theorem decideOwnFlash_open (h : StaysOpen x.trackId d) (lost : Bool) :
    decideOwnFlash im x (if lost then loseCoLit x.trackId d else d) =
      if flashAllowed im d d.clock then modifyTrack x.trackId (flashTold x.frame .own true lost) (fireFlash im x d)
      else modifyTrack x.trackId (flashTold x.frame .none false lost) d := by
  have hallowed : flashAllowed im (if lost then loseCoLit x.trackId d else d)
      (if lost then loseCoLit x.trackId d else d).clock = flashAllowed im d d.clock := by cases lost <;> rfl
  have hfire : fireFlash im x (if lost then loseCoLit x.trackId d else d) =
      if lost then loseCoLit x.trackId (fireFlash im x d) else fireFlash im x d := by cases lost <;> rfl
  rw [decideOwnFlash, hallowed, hfire, reportFlash_open (d := fireFlash im x d) h, reportFlash_open h]

/-- R151: a co-lit frame whose source is held is left to it. -/
theorem decideFlash_held {key : ClaimKey} {c : NeighbourClaim} (h : StaysOpen x.trackId d) (hx : x.coLit = some key)
    (hc : d.crs.claims.find? (fun y => y.key == key) = some c) :
    decideFlash im x d =
      modifyTrack x.trackId (flashTold x.frame .coLit false (!covers im.guardTime d.clock x.e c)) d := by
  rw [← reportFlash_open h]
  simp only [decideFlash, hx, hc]
  cases covers im.guardTime d.clock x.e c <;> rfl

/-- R151: a co-lit frame whose source is gone is decided as a flashed one. -/
theorem decideFlash_gone {key : ClaimKey} (h : StaysOpen x.trackId d) (hx : x.coLit = some key)
    (hc : ∀ y ∈ d.crs.claims, y.key ≠ key) :
    decideFlash im x d =
      if flashAllowed im d d.clock then modifyTrack x.trackId (flashTold x.frame .own true true) (fireFlash im x d)
      else modifyTrack x.trackId (flashTold x.frame .none false true) d := by
  have hnone : d.crs.claims.find? (fun y => y.key == key) = none := by simpa using hc
  simp only [decideFlash, hx, hnone]
  exact decideOwnFlash_open h true

/-- R167: a frame with no co-lit source fires when it is flashed and its flash is allowed, and is NONE otherwise. -/
theorem decideFlash_own (h : StaysOpen x.trackId d) (hx : x.coLit = none) :
    decideFlash im x d =
      if x.flashed && flashAllowed im d d.clock then
        modifyTrack x.trackId (flashTold x.frame .own true false) (fireFlash im x d)
      else modifyTrack x.trackId (flashTold x.frame .none false false) d := by
  simp only [decideFlash, hx]
  cases x.flashed
  · exact reportFlash_open h x.frame .none false false
  · exact decideOwnFlash_open h false

/-- R167: at a flash instant that has come the decision leaves the list and is taken. -/
theorem flashReached_due {id : Byte} {k : Nat} (hi : d.cfl.image = some im)
    (hx : d.fdu.decisions.find? (fun y => y.trackId == id && y.frame == k) = some x)
    (ha : isAfter x.instant d.clock = false) : flashReached id k d = decideFlash im x (removeDecision x d) := by
  simp [flashReached, hi, hx, ha]

end Flash

end Sys2Proof.Machine

namespace Sys2Proof.Settled

open Sys2Proof.Machine

/-- Settles O42: the removal is followed by a resolution of the PLANNED tracks, which writes six blocks at most and
nothing when there is none. -/
theorem neighbourClaimExpires : Obligations.NeighbourClaimExpires := by
  intro t station id s d c hd hc
  have hrun (r : Device) (h : claimExpires { station := station, trackId := id } d = r) :
      exec (.neighbourClaimExpires t station id) s = .next (settled s r) := h ▸ taken_found _ hd
  refine ⟨fun hahead => hrun d (claimExpires_ahead hc hahead), fun hreached => ?_⟩
  have hwrites := (claimExpires_reached hc hreached).trans (resolveAll_writes _)
  refine ⟨_, _, _, _, _, _, hrun _ hwrites, fun hnone => ?_⟩
  have hplanned : plannedIds d = [] := by simpa [plannedIds, List.filter_eq_nil_iff] using hnone
  rw [resolveAll_unplanned]
  · exact ⟨rfl, rfl, rfl, rfl, rfl, rfl⟩
  · exact hplanned

/-- Settles O48: the decision leaves the list, and the frame's value is told a track that stays open, by the frame's
co-lit source and by whether an own flash is allowed. -/
theorem flashDecided : Obligations.FlashDecided := by
  intro t id k s d x im hd hi hx ha hframes left allowed reported fired
  obtain ⟨rfl, rfl⟩ : x.trackId = id ∧ x.frame = k := by simpa using List.find?_some hx
  have hopen : StaysOpen x.trackId (removeDecision x d) := hframes
  have hrun : exec (.flashInstant t x.trackId x.frame) s = .next (settled s (decideFlash im x (removeDecision x d))) :=
    (taken_found (flashReached x.trackId x.frame) hd).trans (by rw [flashReached_due hi hx ha])
  have hallowed : flashAllowed im (removeDecision x d) (removeDecision x d).clock = allowed := rfl
  refine ⟨fun hown hflashed hfree => ?_, fun key hkey hgone => ⟨fun hfree => ?_, fun hbarred => ?_⟩,
    fun hown hbarred => ?_, fun key c hkey hheld => ?_⟩
  · rw [hrun, decideFlash_own hopen hown, hallowed, hflashed, hfree]
    rfl
  · rw [hrun, decideFlash_gone hopen hkey hgone, hallowed, hfree]
    rfl
  · rw [hrun, decideFlash_gone hopen hkey hgone, hallowed, hbarred]
    rfl
  · have hno : (x.flashed && allowed) = false := by simpa using hbarred
    rw [hrun, decideFlash_own hopen hown, hallowed, hno]
    rfl
  · rw [hrun, decideFlash_held hopen hkey hheld]
    rfl

end Sys2Proof.Settled

/-! ## The ends of timed outputs, BOOTING, and READY (R154, R156, R159, R161, R162, R164, R168) -/

namespace Sys2Proof.Machine

/-! ### No pulse can be issued (R159) -/

/-- R159: the camera is not ORDERED, or the burst in hand has no pulse due. -/
def NoPulseDue (d : Device) : Prop :=
  d.cdu.state ≠ .ordered
    ∨ ∀ b f, d.cdu.bursts.head? = some b → nextFrame b = some f → isAfter f.pulse d.clock = true

theorem issuePulses_still {d : Device} (h : NoPulseDue d) : issuePulses d = d := by
  rcases issuePulses_cases d with e | ⟨b, rest, im, f, hb, -, hf, hm, -⟩
  · exact e
  · obtain ⟨⟨⟨hdue, hordered⟩, -⟩, -⟩ : ((isAfter f.pulse d.clock = false ∧ d.cdu.state = .ordered) ∧ _) ∧ _ := by
      simpa [mayIssue] using hm
    rcases h with hstate | hahead
    · exact absurd hordered hstate
    · exact absurd (hahead b f (by simp [hb]) hf) (by simp [hdue])

/-! ### The end of a message on the order line (R156) -/

/-- R156: the end of an exposure order recorded with its burst. -/
def orderEnded (m : OrderMessage) (now : Time) (b : Burst) : Burst :=
  if m.isOrder && b.trackId == m.key then { b with orderEnd := some now } else b

theorem nextFrame_orderEnded (m : OrderMessage) (now : Time) (b : Burst) :
    nextFrame (orderEnded m now b) = nextFrame b := by
  unfold orderEnded
  split <;> rfl

section MessageEnd

variable {d : Device} {m : OrderMessage} {a : Time} (hm : d.cdu.orderLine = some (m, a))

include hm

theorem endMessage_eq :
    endMessage d = { d with cdu := { d.cdu with
      bursts := d.cdu.bursts.map (orderEnded m d.clock), lineQueue := d.cdu.lineQueue.tail,
      orderLine := d.cdu.lineQueue.head?.map fun x => (x, laterBy d.clock (5 * x.bytes.length)) } } := by
  have hbursts : (if m.isOrder then
      d.cdu.bursts.map fun b => if b.trackId == m.key then { b with orderEnd := some d.clock } else b
      else d.cdu.bursts) = d.cdu.bursts.map (orderEnded m d.clock) := by
    unfold orderEnded
    cases m.isOrder <;> simp
  simp only [endMessage, hm, hbursts]
  cases d.cdu.lineQueue <;> simp

/-- R156, R159: an expired message ends; no pulse waits for it. -/
theorem orderEnds_still (ha : isAfter a d.clock = false) (h : NoPulseDue d) : orderEnds d = endMessage d := by
  have hdue : due (d.cdu.orderLine.map (·.2)) d.clock = true := due_of_reached (by rw [hm]; rfl) ha
  rw [orderEnds, if_pos hdue, issuePulses_still]
  rw [endMessage_eq hm]
  refine h.imp id fun hahead b f hb hf => ?_
  obtain ⟨b0, hb0, rfl⟩ : ∃ b0, d.cdu.bursts.head? = some b0 ∧ orderEnded m d.clock b0 = b := by
    simpa [List.head?_map] using hb
  exact hahead b0 f hb0 (by rwa [nextFrame_orderEnded] at hf)

end MessageEnd

/-- R159: CAM_TRG returns inactive; no pulse waits for it. -/
theorem triggerEnds_still {d : Device} {a : Time} (hend : d.cdu.triggerEnd = some a) (ha : isAfter a d.clock = false)
    (h : NoPulseDue d) : triggerEnds d = { d with cdu := { d.cdu with triggerEnd := none } } := by
  rw [triggerEnds, if_pos (due_of_reached hend ha)]
  exact issuePulses_still h

theorem fireEnds_reached {d : Device} {a : Time} (hend : d.fdu.fireEnd = some a) (ha : isAfter a d.clock = false) :
    fireEnds d = { d with fdu := { d.fdu with fireEnd := none } } := if_pos (due_of_reached hend ha)

/-! ### BOOTING (R154, R162, R164) -/

theorem takeReady_booting {d : Device} {a : Time} (hs : d.cdu.state = .booting) (hb : d.cdu.bootDeadline = some a) :
    takeReady d = { d with cdu := { d.cdu with state := .idle, timeouts := 0, bootDeadline := none } } := by
  simp [takeReady, hs, hb]

/-- R162: a READY that nothing waits for is disregarded. -/
theorem takeReady_disregarded {d : Device}
    (hs : d.cdu.state = .idle ∨ d.cdu.state = .ordered ∨ d.cdu.state = .locked) : takeReady d = d := by
  rcases hs with hs | hs | hs <;> simp [takeReady, hs]

/-- R164: a camera with no burst is locked. -/
theorem lockCamera_empty {d : Device} (hb : d.cdu.bursts = []) :
    lockCamera d = raise .cameraLockout { d with cdu := { d.cdu with state := .locked, bootDeadline := none } } := by
  simp [lockCamera, hb, forEach]

theorem bootDeadlineExpires_reached {d : Device} {a : Time} {im : Image} (hs : d.cdu.state = .booting)
    (hb : d.cdu.bootDeadline = some a) (ha : isAfter a d.clock = false) (hi : d.cfl.image = some im) :
    bootDeadlineExpires d = bootExpires im d := by
  simp [bootDeadlineExpires, hs, hi, due_of_reached hb ha]

/-- R154: a boot deadline below the fourth opens another boot window. -/
theorem bootExpires_again {d : Device} (im : Image) (h : d.cdu.timeouts < 3) :
    bootExpires im d = { d with cdu := { d.cdu with
      timeouts := d.cdu.timeouts + 1, bootDeadline := some (laterBy d.clock (im.bootWindow * 1000)) } } := by
  have hbelow : d.cdu.timeouts + 1 ≠ 4 := by omega
  simp [bootExpires, hbelow]

/-- R154, R164: the fourth boot deadline locks the camera. -/
theorem bootExpires_fourth {d : Device} (im : Image) (h : d.cdu.timeouts = 3) (hb : d.cdu.bursts = []) :
    bootExpires im d = raise .cameraLockout
      { d with cdu := { d.cdu with state := .locked, timeouts := 4, bootDeadline := none } } := by
  simp [bootExpires, h, lockCamera_empty, hb]

/-! ### A track told the outcome of its frame (R104, R105, R109) -/

/-- R104: the frame waits for its camera outcome, or, once pulsed, for its flash value or its return. -/
def FrameOpen (f : FrameEntry) : Prop :=
  f.outcome = none ∨ (f.pulsed = true ∧ (f.flashReported = false ∨ (f.ownFired = true ∧ f.returnKnown = false)))

theorem frameOpen_iff (f : FrameEntry) : FrameOpen f ↔ frameSettled f = false := by
  unfold FrameOpen frameSettled
  cases f.outcome with
  | none => simp
  | some o => cases f.pulsed <;> cases f.flashReported <;> simp

/-- R104: a frame of the track is not settled. -/
def HasOpenFrame (tr : Track) : Prop := ∃ f ∈ tr.frames, FrameOpen f

theorem hasOpenFrame_iff (tr : Track) : HasOpenFrame tr ↔ tr.frames.all frameSettled = false := by
  simp only [HasOpenFrame, frameOpen_iff, List.all_eq_false, Bool.not_eq_true]

/-- R105: a track with a frame not settled stays. -/
theorem closeIfSettled_stays {id : Byte} {d : Device} {tr : Track} (hfound : findTrack d id = some tr)
    (hopen : HasOpenFrame tr) : closeIfSettled id d = d := by
  simp [closeIfSettled, hfound, (hasOpenFrame_iff tr).1 hopen]

theorem closeIfSettled_absent {id : Byte} {d : Device} (h : findTrack d id = none) : closeIfSettled id d = d := by
  simp [closeIfSettled, h]

/-- R174, R175: the CAPTURE record of a track that closes with frames advances the number and joins a queue that has a
place. -/
theorem offerCapture_joins {r : CaptureRecord} {d : Device} (h : d.rqs.records.length < 32)
    (ho : r.outcome = .captured ∨ r.outcome = .partialCapture) :
    offerCapture r d = { d with rqs := { d.rqs with
      passage := bcdSucc d.rqs.passage,
      records := d.rqs.records ++ [.capture { r with passage := bcdSucc d.rqs.passage }] } } := by
  rcases ho with ho | ho <;> simp [offerCapture, offerRecord, joinRecords, h, ho]

/-- R105, R108, R109: a track with a pulsed frame and every frame settled closes, and no claim is released. -/
theorem closeIfSettled_closes {id : Byte} {d : Device} {tr : Track} (hfound : findTrack d id = some tr)
    (hpulsed : ∃ f ∈ tr.frames, f.pulsed = true) (hsettled : ¬ HasOpenFrame tr) (hroom : d.rqs.records.length < 32) :
    closeIfSettled id d = { d with
      htk := { d.htk with tracks := d.htk.tracks.filter fun x => x.id != id },
      rqs := { d.rqs with
        passage := bcdSucc d.rqs.passage,
        records := d.rqs.records ++
          [closedRecord d (if tr.frames.any frameFailed then .partialCapture else .captured) tr] } } := by
  obtain ⟨f, hf, hp⟩ := hpulsed
  have hany : tr.frames.any (·.pulsed) = true := List.any_eq_true.2 ⟨f, hf, hp⟩
  have hall : tr.frames.all frameSettled = true := by simpa only [hasOpenFrame_iff, Bool.not_eq_false] using hsettled
  have hclose : (!tr.frames.isEmpty && tr.frames.all frameSettled) = true := by
    rw [hall, Bool.and_true]
    simpa using List.ne_nil_of_mem hf
  simp only [closeIfSettled, hfound, hclose, if_true]
  rw [closeTrack_found hfound]
  simp only [hany, Bool.not_true, Bool.false_and, Bool.false_eq_true, if_false]
  rw [offerCapture_joins hroom (by simp only [captureRecord]; split <;> simp)]
  rfl

/-- R104: a track told the camera outcome of frame k, which its pulse gave. -/
def outcomeTold (k : Nat) (o : CameraOutcome) (tr : Track) : Track :=
  { tr with frames := tr.frames.map fun x => if x.index == k then { x with outcome := some o } else x }

theorem outcomeTold_pulsed {tr : Track} (k : Nat) (o : CameraOutcome) (h : ∃ f ∈ tr.frames, f.pulsed = true) :
    ∃ f ∈ (outcomeTold k o tr).frames, f.pulsed = true := by
  obtain ⟨f, hf, hp⟩ := h
  exact ⟨_, List.mem_map_of_mem hf, by split <;> exact hp⟩

theorem findTrack_outcomeTold {d : Device} {id : Byte} {tr : Track} (k : Nat) (o : CameraOutcome)
    (h : findTrack d id = some tr) :
    findTrack (modifyTrack id (outcomeTold k o) d) id = some (outcomeTold k o tr) :=
  findTrack_modifyTrack _ (fun _ => rfl) h

/-- R105: a track that was told an outcome stays while a frame of it is not settled. -/
theorem closeIfSettled_outcomeTold_open {d : Device} {id : Byte} {k : Nat} {o : CameraOutcome}
    (h : ∀ tr, findTrack d id = some tr → HasOpenFrame (outcomeTold k o tr)) :
    closeIfSettled id (modifyTrack id (outcomeTold k o) d) = modifyTrack id (outcomeTold k o) d := by
  cases hfound : findTrack d id with
  | some tr => exact closeIfSettled_stays (findTrack_outcomeTold k o hfound) (h tr hfound)
  | none =>
    refine closeIfSettled_absent ?_
    have habsent : ∀ tr ∈ d.htk.tracks, tr.id ≠ id := by simpa [findTrack] using hfound
    simp only [findTrack, modifyTrack_tracks, List.find?_eq_none, List.mem_map]
    rintro _ ⟨tr, htr, rfl⟩
    simp [habsent tr htr]

/-! ### A READY that settles the outstanding frame (R104, R161, R162) -/

/-- R161: a burst told the camera outcome of frame k, when it is the burst of track `id`. -/
def burstTold (id : Byte) (k : Nat) (o : CameraOutcome) (b : Burst) : Burst :=
  if b.trackId == id then
    { b with frames := b.frames.map fun x => if x.index == k then { x with outcome := some o } else x }
  else b

theorem settleFrame_pulsed (id : Byte) (k : Nat) {o : CameraOutcome} (ho : o ≠ .cancelled) (d : Device) :
    settleFrame id k o d = modifyTrack id (outcomeTold k o)
      { d with cdu := { d.cdu with bursts := d.cdu.bursts.map (burstTold id k o) } } := by
  simp only [settleFrame, reportOutcome, if_neg ho]
  rfl

theorem readyOutcome_ne_cancelled (o : Outstanding) (now : Time) : readyOutcome o now ≠ .cancelled := by
  unfold readyOutcome
  (repeat' split) <;> simp

theorem burstTold_trackId (id : Byte) (k : Nat) (o : CameraOutcome) (b : Burst) :
    (burstTold id k o b).trackId = b.trackId := by
  unfold burstTold
  split <;> rfl

/-- Telling a burst an outcome leaves the pulses of its frames and whether they were issued. -/
theorem mem_burstTold {id : Byte} {k : Nat} {o : CameraOutcome} {b : Burst} {f : BurstFrame}
    (h : f ∈ (burstTold id k o b).frames) : ∃ f0 ∈ b.frames, f.pulse = f0.pulse ∧ f.issued = f0.issued := by
  unfold burstTold at h
  split at h
  · obtain ⟨f0, hf0, rfl⟩ := List.mem_map.1 h
    exact ⟨f0, hf0, by split <;> rfl, by split <;> rfl⟩
  · exact ⟨f, h, rfl, rfl⟩

/-- R161: with the outcome of frame k a burst is settled when its other frames had theirs. -/
theorem burstSettled_burstTold {id : Byte} {k : Nat} {o : CameraOutcome} {b : Burst} (hid : b.trackId = id) :
    burstSettled (burstTold id k o b) = true ↔ ∀ f ∈ b.frames, f.index = k ∨ f.outcome ≠ none := by
  simp only [burstSettled, burstTold, hid, beq_self_eq_true, if_true, List.all_map, List.all_eq_true,
    Function.comp_apply]
  refine forall₂_congr fun f _ => ?_
  by_cases hk : f.index = k <;> simp [hk, Option.isSome_iff_ne_none]

theorem filter_burstTold (id : Byte) (k : Nat) (o : CameraOutcome) (l : List Burst) :
    (l.map (burstTold id k o)).filter (fun b => b.trackId != id) = l.filter fun b => b.trackId != id := by
  rw [List.filter_map]
  simp only [Function.comp_def, burstTold_trackId]
  refine (List.map_congr_left fun b hb => ?_).trans (List.map_id' _)
  simp [burstTold, (by simpa using (List.mem_filter.1 hb).2 : b.trackId ≠ id)]

/-- Every pulse not yet issued lies ahead. -/
def PulsesAhead (now : Time) (l : List Burst) : Prop :=
  ∀ b ∈ l, ∀ f ∈ b.frames, f.issued = false → isAfter f.pulse now = true

theorem PulsesAhead.burstTold {now : Time} {l : List Burst} (h : PulsesAhead now l) (id : Byte) (k : Nat)
    (o : CameraOutcome) : PulsesAhead now (l.map (burstTold id k o)) := by
  intro b hb f hf hi
  obtain ⟨b0, hb0, rfl⟩ := List.mem_map.1 hb
  obtain ⟨f0, hf0, hpulse, hissued⟩ := mem_burstTold hf
  rw [hpulse]
  exact h b0 hb0 f0 hf0 (hissued ▸ hi)

theorem issuePulses_allAhead {d : Device} (h : PulsesAhead d.clock d.cdu.bursts) : issuePulses d = d :=
  issuePulses_ahead fun b hb f hf hopen => h b hb f hf (by simpa using (Bool.and_eq_true_iff.1 hopen).1)

theorem dropIfSettled_stays {d : Device} {id : Byte}
    (h : ∀ b ∈ d.cdu.bursts, b.trackId = id → burstSettled b ≠ true) : dropIfSettled id d = d := by
  rw [dropIfSettled, if_neg]
  simpa using h

theorem dropIfSettled_leaves {d : Device} {id : Byte}
    (h : ∃ b ∈ d.cdu.bursts, b.trackId = id ∧ burstSettled b = true) : dropIfSettled id d = dropBurst id d := by
  rw [dropIfSettled, if_pos]
  simpa using h

/-- The Camera Drive Unit after a READY that leaves its burst in the list. -/
def burstKept (o : Outstanding) (d : Device) : Device :=
  { d with cdu := { d.cdu with
    timeouts := 0, outstanding := none, state := if d.cdu.bursts.isEmpty then .idle else .ordered,
    bursts := d.cdu.bursts.map (burstTold o.trackId o.frame (readyOutcome o d.clock)) } }

/-- The drive units after a READY with which its burst leaves the list. -/
def burstGone (o : Outstanding) (d : Device) : Device :=
  let left := d.cdu.bursts.filter fun b => b.trackId != o.trackId
  { d with
    cdu := { d.cdu with
      timeouts := 0, outstanding := none, state := if left.isEmpty then .idle else .ordered, bursts := left,
      lineQueue := d.cdu.lineQueue.filter fun m => !(m.isOrder && m.key == o.trackId) },
    fdu := { d.fdu with plans := d.fdu.plans.filter fun p => p.trackId != o.trackId } }

/-- R104: what a READY at `now` tells the track of the outstanding frame. -/
abbrev readyTold (o : Outstanding) (now : Time) : Track → Track := outcomeTold o.frame (readyOutcome o now)

section SettleReady

variable {o : Outstanding} {d : Device}

theorem settleReady_eq : settleReady o d = closeIfSettled o.trackId (restState (dropIfSettled o.trackId
    (modifyTrack o.trackId (readyTold o d.clock) { d with cdu := { d.cdu with
      timeouts := 0, outstanding := none,
      bursts := d.cdu.bursts.map (burstTold o.trackId o.frame (readyOutcome o d.clock)) } }))) := by
  simp only [settleReady, settleFrame_pulsed _ _ (readyOutcome_ne_cancelled o d.clock)]
  rfl

/-- R161: the burst stays while a frame of it beside the outstanding one has no outcome. -/
theorem settleReady_stays
    (h : ∀ b ∈ d.cdu.bursts, b.trackId = o.trackId → ∃ f ∈ b.frames, f.index ≠ o.frame ∧ f.outcome = none) :
    settleReady o d = closeIfSettled o.trackId (modifyTrack o.trackId (readyTold o d.clock) (burstKept o d)) := by
  rw [settleReady_eq, dropIfSettled_stays]
  · simp only [restState, burstKept, modifyTrack_frame, List.isEmpty_map]
    rfl
  · intro b hb hid hall
    obtain ⟨b0, hb0, rfl⟩ := List.mem_map.1 hb
    rw [burstTold_trackId] at hid
    obtain ⟨f, hf, hindex, hopen⟩ := h b0 hb0 hid
    rcases (burstSettled_burstTold hid).1 hall f hf with hsame | hset
    · exact hindex hsame
    · exact hset hopen

/-- R161: the burst leaves when the outstanding frame was the last without outcome. -/
theorem settleReady_leaves
    (h : ∃ b ∈ d.cdu.bursts, b.trackId = o.trackId ∧ ∀ f ∈ b.frames, f.index = o.frame ∨ f.outcome ≠ none) :
    settleReady o d = closeIfSettled o.trackId (modifyTrack o.trackId (readyTold o d.clock) (burstGone o d)) := by
  obtain ⟨b, hb, hid, hall⟩ := h
  rw [settleReady_eq, dropIfSettled_leaves ⟨_, List.mem_map_of_mem hb, (burstTold_trackId ..).trans hid,
    (burstSettled_burstTold hid).2 hall⟩]
  simp only [restState, dropBurst, modifyTrack_frame, filter_burstTold]
  rfl

variable (hs : d.cdu.state = .busy) (ho : d.cdu.outstanding = some o) (hlater : o.pulse ≠ d.clock)

include hs ho hlater

theorem takeReady_settles : takeReady d = issuePulses (settleReady o d) := by simp [takeReady, hs, ho, hlater]

/-- R161: a READY with a frame of the burst still to come, no pulse being due. -/
theorem takeReady_stays (hahead : PulsesAhead d.clock d.cdu.bursts)
    (hburst : ∀ b ∈ d.cdu.bursts, b.trackId = o.trackId → ∃ f ∈ b.frames, f.index ≠ o.frame ∧ f.outcome = none)
    (hopen : ∀ tr, findTrack d o.trackId = some tr → HasOpenFrame (readyTold o d.clock tr)) :
    takeReady d = modifyTrack o.trackId (readyTold o d.clock) (burstKept o d) := by
  rw [takeReady_settles hs ho hlater, settleReady_stays hburst,
    closeIfSettled_outcomeTold_open (d := burstKept o d) hopen]
  exact issuePulses_allAhead (hahead.burstTold o.trackId o.frame (readyOutcome o d.clock))

variable {tr : Track} (hfound : findTrack d o.trackId = some tr)
  (hahead : PulsesAhead d.clock (d.cdu.bursts.filter fun b => b.trackId != o.trackId))
  (hburst : ∃ b ∈ d.cdu.bursts, b.trackId = o.trackId ∧ ∀ f ∈ b.frames, f.index = o.frame ∨ f.outcome ≠ none)

include hfound hahead hburst

/-- R161: a READY with which the burst leaves and after which its track waits for the flash. -/
theorem takeReady_leaves_open (hopen : HasOpenFrame (readyTold o d.clock tr)) :
    takeReady d = modifyTrack o.trackId (readyTold o d.clock) (burstGone o d) := by
  have htold := findTrack_outcomeTold (d := burstGone o d) o.frame (readyOutcome o d.clock) hfound
  rw [takeReady_settles hs ho hlater, settleReady_leaves hburst, closeIfSettled_stays htold hopen]
  exact issuePulses_allAhead hahead

/-- R161, R105: a READY with which the burst leaves and its track closes. -/
theorem takeReady_leaves_closed (hclosed : ¬ HasOpenFrame (readyTold o d.clock tr))
    (hpulsed : ∃ f ∈ tr.frames, f.pulsed = true) (hroom : d.rqs.records.length < 32) :
    let told := readyTold o d.clock tr
    takeReady d = { burstGone o d with
      htk := { d.htk with tracks := d.htk.tracks.filter fun x => x.id != o.trackId },
      rqs := { d.rqs with
        passage := bcdSucc d.rqs.passage,
        records := d.rqs.records ++
          [closedRecord d (if told.frames.any frameFailed then .partialCapture else .captured) told] } } := by
  intro told
  have htold := findTrack_outcomeTold (d := burstGone o d) o.frame (readyOutcome o d.clock) hfound
  rw [takeReady_settles hs ho hlater, settleReady_leaves hburst,
    closeIfSettled_closes htold (outcomeTold_pulsed _ _ hpulsed) hclosed hroom,
    filter_modifyTrack (burstGone o d) o.trackId (readyTold o d.clock) fun _ => rfl]
  exact issuePulses_allAhead hahead

end SettleReady

/-- TABLE 8-6, R162: a READY at the instant of the pulse itself is not yet due. -/
theorem takeReady_atPulse {d : Device} {o : Outstanding} (hs : d.cdu.state = .busy) (ho : d.cdu.outstanding = some o)
    (hnow : o.pulse = d.clock) : takeReady d = d := by
  simp [takeReady, hs, ho, hnow]

theorem frameFailed_eq (f : FrameEntry) :
    frameFailed f = (f.outcome == some .timeout || f.outcome == some .cancelled) := by
  rcases h : f.outcome with _ | o
  · simp [frameFailed, h]
  · cases o <;> simp [frameFailed, h]

end Sys2Proof.Machine

namespace Sys2Proof.Settled

open Sys2Proof.Machine

/-- Settles O43: a message, a trigger or a fire that is due ends, and no pulse waits for it. -/
theorem timedOutputsEnd : Obligations.TimedOutputsEnd := by
  intro t s d a hd ha still
  refine ⟨fun m hstill hm => ?_, fun hstill hend => ?_, fun hend => ?_⟩
  · have hrun : exec (.orderMessageEnd t) s = .next (settled s (endMessage d)) :=
      (taken_found orderEnds hd).trans (by rw [orderEnds_still hm ha hstill])
    refine ⟨fun hq => ?_, fun next rest hq => ?_⟩ <;>
    · rw [hrun, endMessage_eq hm]
      simp only [hq]
      rfl
  · exact (taken_found triggerEnds hd).trans (by rw [triggerEnds_still hend ha hstill])
  · exact (taken_found fireEnds hd).trans (by rw [fireEnds_reached hend ha])

/-- Settles O45: a READY ends BOOTING and is disregarded by a camera that waits for none; a boot deadline opens another
window or locks a camera without bursts. -/
theorem bootWindowRuns : Obligations.BootWindowRuns := by
  intro t s d hd pins
  have hready : exec (.ready t) s = .next (settled s (takeReady { d with pins := pins })) := taken_found readyArrives hd
  refine ⟨fun a hs hb => ?_, fun hs => ?_, fun a im hs hb ha hi hnone => ?_⟩
  · rw [hready, takeReady_booting (a := a) (by exact hs) (by exact hb)]
  · rw [hready, takeReady_disregarded (by exact hs)]
  · have hboot : exec (.bootDeadlineExpires t) s = .next (settled s (bootExpires im d)) :=
      (taken_found bootDeadlineExpires hd).trans (by rw [bootDeadlineExpires_reached hs hb ha hi])
    refine ⟨fun hbelow => ?_, fun hthird => ?_⟩
    · rw [hboot, bootExpires_again im hbelow]
      rfl
    · rw [hboot, bootExpires_fourth im hthird hnone]
      rfl

/-- Settles O46: the outstanding frame is told to its burst and to its track; the burst stays or leaves with it, and so
does the track. -/
theorem readySettlesFrame : Obligations.ReadySettlesFrame := by
  intro t s d o hd hs ho pins outcome settledTrack tracks open_ kept left dropped
  have hrun (r : Device) (h : takeReady { d with pins := pins } = r) : exec (.ready t) s = .next (settled s r) :=
    h ▸ taken_found readyArrives hd
  refine ⟨fun hnow => hrun _ (takeReady_atPulse hs ho hnow), fun hlater hahead hburst hopen => ?_,
    fun tr hlater hfound hahead hburst => ⟨fun hopen => ?_, fun hclosed hpulsed hroom => ?_⟩⟩
  · refine hrun _ (takeReady_stays hs ho hlater hahead hburst fun tr hfound => ?_)
    obtain ⟨hmem, hid⟩ := findTrack_some hfound
    exact hopen tr hmem hid
  · exact hrun _ (takeReady_leaves_open hs ho hlater hfound hahead hburst hopen)
  · refine (hrun _ (takeReady_leaves_closed (d := { d with pins := pins }) hs ho hlater hfound hahead hburst hclosed
      hpulsed hroom)).trans ?_
    rw [funext frameFailed_eq]
    rfl

end Sys2Proof.Settled

/-! ## Flash returns and CLEAR_LOCKOUT (R154, R165, R168 to R171, R186) -/

namespace Sys2Proof.Machine

/-! ### Returns (R104, R168 to R170) -/

/-- R104: a track told that the return of its frame k is known, and whether it was missed. -/
def returnTold (k : Nat) (missed : Bool) (tr : Track) : Track :=
  { tr with frames := tr.frames.map fun y =>
      if y.index == k then { y with misfire := y.misfire || missed, returnKnown := true } else y }

theorem returnTold_open {tr : Track} (k : Nat) (missed : Bool) (h : ∃ y ∈ tr.frames, y.outcome = none) :
    ∃ y ∈ (returnTold k missed tr).frames, y.outcome = none := by
  obtain ⟨y, hy, hopen⟩ := h
  exact ⟨_, List.mem_map_of_mem hy, by split <;> exact hopen⟩

theorem reportReturn_open {id : Byte} {d : Device} (h : StaysOpen id d) (k : Nat) (missed : Bool) :
    reportReturn id k missed d = modifyTrack id (returnTold k missed) d :=
  closeIfSettled_open (h.modifyTrack _ fun _ => returnTold_open k missed)

/-- R125: with no track in PLANNED nothing is planned again. -/
theorem replanAll_unplanned {d : Device} (h : ∀ tr ∈ d.htk.tracks, tr.state ≠ .planned) : replanAll d = d := by
  have hnone : plannedIds d = [] := by simpa [plannedIds, List.filter_eq_nil_iff] using h
  rw [replanAll, hnone]
  rfl

section Returns

variable {d : Device} {x : AwaitedReturn}

theorem takeReturn_unfitting (h : d.fdu.awaited.find? (returnFits d.clock) = none) : takeReturn d = d := by
  simp [takeReturn, h]

variable (hopen : StaysOpen x.trackId d)

include hopen

/-- R104, R168: the return of x is known: x leaves the awaited returns, and its frame's track is told. -/
theorem reportReturn_removeAwaited (missed : Bool) :
    reportReturn x.trackId x.frame missed (removeAwaited x d) =
      modifyTrack x.trackId (returnTold x.frame missed) (removeAwaited x d) :=
  reportReturn_open (d := removeAwaited x d) hopen x.frame missed

/-- R169: a good return in IDLE sets the misfire count to 0. -/
theorem takeReturn_credited (hx : d.fdu.awaited.find? (returnFits d.clock) = some x) :
    takeReturn d = modifyTrack x.trackId (returnTold x.frame false) { removeAwaited x d with
      fdu := { (removeAwaited x d).fdu with misfires := if d.fdu.state = .idle then 0 else d.fdu.misfires } } := by
  simp only [takeReturn, hx, reportReturn_removeAwaited hopen]
  by_cases hidle : d.fdu.state = .idle <;> simp [hidle] <;> rfl

theorem misfire_locked (hs : d.fdu.state = .locked) :
    misfire x d = modifyTrack x.trackId (returnTold x.frame true) (removeAwaited x d) := by
  simp [misfire, reportReturn_removeAwaited hopen, hs]

/-- R169: a misfire in IDLE is counted. -/
theorem misfire_counted (hs : d.fdu.state = .idle) (hn : d.fdu.misfires ≠ 3) :
    misfire x d = modifyTrack x.trackId (returnTold x.frame true) { removeAwaited x d with
      fdu := { (removeAwaited x d).fdu with misfires := d.fdu.misfires + 1 } } := by
  simp [misfire, reportReturn_removeAwaited hopen, hs, hn]
  rfl

/-- R169, R170: the fourth misfire locks the flash; with no track in PLANNED nothing is planned again. -/
theorem misfire_fourth (hs : d.fdu.state = .idle) (hn : d.fdu.misfires = 3)
    (hplanned : ∀ tr ∈ d.htk.tracks, tr.state ≠ .planned) :
    misfire x d = raise .flashLockout (modifyTrack x.trackId (returnTold x.frame true) { removeAwaited x d with
      fdu := { (removeAwaited x d).fdu with state := .locked, misfires := 4 } }) := by
  simp only [misfire, reportReturn_removeAwaited hopen, modifyTrack_frame, removeAwaited_drive, hs, hn]
  refine replanAll_unplanned fun tr' htr' => ?_
  obtain ⟨tr, htr, rfl⟩ := List.mem_map.1 htr'
  split <;> exact hplanned tr htr

end Returns

theorem returnExpires_ahead {d : Device} {x : AwaitedReturn} {id : Byte} {k : Nat}
    (hx : d.fdu.awaited.find? (fun y => y.trackId == id && y.frame == k) = some x)
    (ha : isAfter x.deadline d.clock = true) : returnExpires id k d = d := by
  simp [returnExpires, hx, ha]

theorem returnExpires_reached {d : Device} {x : AwaitedReturn} {id : Byte} {k : Nat}
    (hx : d.fdu.awaited.find? (fun y => y.trackId == id && y.frame == k) = some x)
    (ha : isAfter x.deadline d.clock = false) : returnExpires id k d = misfire x d := by
  simp [returnExpires, hx, ha]

/-! ### CLEAR_LOCKOUT (R165, R171, R186) -/

/-- R179: the bytes of CLEAR_LOCKOUT are judged to be that command. -/
theorem judgeCommand_clearLockout (u : LockoutUnit) :
    judgeCommand (commandBytes (.clearLockout u)) = some (.clearLockout u) := by
  rw [judgeCommand, if_pos (by exact xorBytes_withCheck _)]
  cases u <;> rfl

/-- R180, R186: CLEAR_LOCKOUT completed on an idle port that sends no reply. -/
theorem receiveCommand_clearLockout (u : LockoutUnit) {d : Device} (hd : d.rqs.receiver = .idle)
    (hreply : d.rqs.reply = none) :
    receiveCommand (commandBytes (.clearLockout u)) d = takeClear u (receiverIdle d) := by
  obtain ⟨b, hb⟩ : ∃ b, commandBytes (.clearLockout u) = 0x56#8 :: [b, xorBytes [0x56#8, b]] := by
    cases u <;> exact ⟨_, rfl⟩
  rw [hb, receiveCommand_idle hd (by simp) (by simp [commandLength]), ← hb, judgeInHand, judgeCommand_clearLockout]
  simp [completeCommand, receiverIdle, hreply, takeCommand]

/-- The Camera Drive Unit after CLEAR_LOCKOUT with CAM_RDY inactive. -/
def cduCleared (named : Bool) (im : Image) (d : Device) : Cdu :=
  if named && d.cdu.state == .locked then
    { d.cdu with state := .booting, timeouts := 0, bootDeadline := some (laterBy d.clock (im.bootWindow * 1000)) }
  else d.cdu

/-- The Flash Drive Unit after CLEAR_LOCKOUT. -/
def fduCleared (named : Bool) (d : Device) : Fdu :=
  if named && d.fdu.state == .locked then { d.fdu with state := .idle, misfires := 0 } else d.fdu

/-- R165, R154: a LOCKED camera that is named boots again, and waits for its READY while CAM_RDY is inactive. -/
theorem clearCamera_eq (named : Bool) {d : Device} {im : Image} (hi : d.cfl.image = some im)
    (hr : d.pins.camRdy = false) :
    (if named then clearCamera d else d) = { d with cdu := cduCleared named im d } := by
  cases named with
  | false => rfl
  | true => by_cases hs : d.cdu.state = .locked <;> simp [clearCamera, cduCleared, hs, hi, startBoot, hr]

/-- R171: a LOCKED flash that is named is IDLE again; with no track in PLANNED nothing is planned again. -/
theorem clearFlash_eq (named : Bool) {d : Device} (hplanned : ∀ tr ∈ d.htk.tracks, tr.state ≠ .planned) :
    (if named then clearFlash d else d) = { d with fdu := fduCleared named d } := by
  cases named with
  | false => rfl
  | true =>
    cases hs : d.fdu.state with
    | idle => simp [clearFlash, fduCleared, hs]
    | locked =>
      simp only [clearFlash, fduCleared, hs]
      exact replanAll_unplanned hplanned

theorem namesCamera_eq (u : LockoutUnit) : namesCamera u = decide (u = .camera ∨ u = .both) := by cases u <;> rfl

theorem namesFlash_eq (u : LockoutUnit) : namesFlash u = decide (u = .flash ∨ u = .both) := by cases u <;> rfl

/-- R186: each unit named is cleared on its own. -/
theorem takeClear_eq (u : LockoutUnit) {d : Device} {im : Image} (hi : d.cfl.image = some im)
    (hr : d.pins.camRdy = false) (hplanned : ∀ tr ∈ d.htk.tracks, tr.state ≠ .planned) :
    takeClear u d = sendReply 0x56#8
      [clearResult (namesCamera u) (d.cdu.state == .locked), clearResult (namesFlash u) (d.fdu.state == .locked)]
      { d with cdu := cduCleared (namesCamera u) im d, fdu := fduCleared (namesFlash u) d } := by
  simp only [takeClear, clearCamera_eq (namesCamera u) hi hr]
  rw [clearFlash_eq (d := { d with cdu := cduCleared (namesCamera u) im d }) (namesFlash u) hplanned]
  rfl

end Sys2Proof.Machine

namespace Sys2Proof.Settled

open Sys2Proof.Machine

/-- Settles O49: a return leaves the awaited ones and is told to a track that stays open; the flash counts it, and locks
at the fourth misfire. -/
theorem returnsSettle : Obligations.ReturnsSettle := by
  intro t s d x hd hopen fits left known
  have hreturn (r : Device) (h : takeReturn d = r) : exec (.flashReturn t) s = .next (settled s r) :=
    h ▸ taken_found takeReturn hd
  refine ⟨fun hnone => hreturn d (takeReturn_unfitting hnone), fun hx => hreturn _ (takeReturn_credited hopen hx),
    fun hx => ?_⟩
  have hexpires (r : Device) (h : returnExpires x.trackId x.frame d = r) :
      exec (.returnDeadlineExpires t x.trackId x.frame) s = .next (settled s r) :=
    h ▸ taken_found (returnExpires x.trackId x.frame) hd
  have hmisfire (ha : isAfter x.deadline d.clock = false) (r : Device) (h : misfire x d = r) :
      exec (.returnDeadlineExpires t x.trackId x.frame) s = .next (settled s r) :=
    hexpires r ((returnExpires_reached hx ha).trans h)
  exact ⟨fun ha => hexpires d (returnExpires_ahead hx ha), fun ha hs => hmisfire ha _ (misfire_locked hopen hs),
    fun ha hs hn => hmisfire ha _ (misfire_counted hopen hs hn),
    fun ha hs hn hplanned => hmisfire ha _ (misfire_fourth hopen hs hn hplanned)⟩

/-- Settles O53: the command is received whole and taken, each unit on its own. -/
theorem clearLockoutTaken : Obligations.ClearLockoutTaken := by
  intro t u s d im hd hidle hreply hi hplanned camera flash result
  let found : Device := { d with pins := { d.pins with camRdy := false } }
  have hrun : exec (.clearLockout t u false) s = .next (settled s (takeClear u (receiverIdle found))) := by
    rw [← receiveCommand_clearLockout u (d := found) hidle hreply]
    exact taken_found (fun x => receiveCommand (commandBytes (.clearLockout u))
      { x with pins := { x.pins with camRdy := false } }) hd
  rw [hrun, takeClear_eq u (d := receiverIdle found) hi rfl hplanned, namesCamera_eq, namesFlash_eq]
  rfl

end Sys2Proof.Settled

/-! ## Records and passage numbers (R174, R175)

Here and below the proofs are elaborated one after another (`Elab.async false`), which keeps the memory of a compile of
the whole text down. -/

namespace Sys2Proof.Machine

set_option Elab.async false

/-! ### The decimal successor -/

/-- The k lowest decimal digits of a number, four bits each. -/
def bcdDigits : Nat → Nat → Nat
  | 0, _ => 0
  | k + 1, n => n % 10 + 16 * bcdDigits k (n / 10)

theorem bcdDigits_lt (k n : Nat) : bcdDigits k n < 16 ^ k := by
  induction k generalizing n with
  | zero => simp [bcdDigits]
  | succ k ih =>
    have := ih (n / 10)
    rw [bcdDigits, Nat.pow_succ]
    omega

/-- Digits above the k lowest do not matter. -/
theorem bcdDigits_mod (k n : Nat) : bcdDigits k (n % 10 ^ k) = bcdDigits k n := by
  induction k generalizing n with
  | zero => rfl
  | succ k ih =>
    rw [bcdDigits, bcdDigits, Nat.pow_succ', Nat.mod_mul_right_mod, Nat.mod_mul_right_div_self, ih]

/-- R175: a digit below 9 is advanced; a 9 becomes 0 and carries. -/
theorem bcdCarry_bcdDigits (k n : Nat) : bcdCarry k (bcdDigits k n) = bcdDigits k (n + 1) := by
  induction k generalizing n with
  | zero => rfl
  | succ k ih =>
    have hdigit : n % 10 < 16 := by omega
    rw [bcdCarry, bcdDigits, bcdDigits, Nat.add_mul_mod_self_left, Nat.mod_eq_of_lt hdigit,
      Nat.add_mul_div_left _ _ (by decide), Nat.div_eq_of_lt hdigit, Nat.zero_add, ih]
    split
    · have hq : (n + 1) / 10 = n / 10 := by omega
      have hr : (n + 1) % 10 = n % 10 + 1 := by omega
      rw [hq, hr, Nat.add_right_comm]
    · have hq : (n + 1) / 10 = n / 10 + 1 := by omega
      have hr : (n + 1) % 10 = 0 := by omega
      rw [hq, hr, Nat.zero_add]

theorem bcdSucc_bcdDigits (n : Nat) :
    bcdSucc (BitVec.ofNat 24 (bcdDigits 6 n)) = BitVec.ofNat 24 (bcdDigits 6 ((n + 1) % 10 ^ 6)) := by
  have hn : (BitVec.ofNat 24 (bcdDigits 6 n)).toNat = bcdDigits 6 n := Nat.mod_eq_of_lt (bcdDigits_lt 6 n)
  rw [bcdSucc, hn, bcdCarry_bcdDigits, bcdDigits_mod]

theorem bcdDigits_six (n : Nat) :
    bcdDigits 6 n = n % 10 + 16 * (n / 10 % 10) + 256 * (n / 100 % 10) + 4096 * (n / 1000 % 10)
      + 65536 * (n / 10000 % 10) + 1048576 * (n / 100000 % 10) := by
  simp only [bcdDigits, Nat.div_div_eq_div_mul, Nat.mul_add, ← Nat.mul_assoc, Nat.add_assoc, Nat.reduceMul,
    Nat.mul_zero, Nat.add_zero]

/-! ### A record offered -/

section Offered

variable (advance : Bool) (make : BitVec 24 → Record) {d : Device}

theorem offerRecord_joins (h : d.rqs.records.length < 32) :
    offerRecord advance make d = { d with
      rqs := { d.rqs with
        passage := if advance then bcdSucc d.rqs.passage else d.rqs.passage,
        records := d.rqs.records ++ [make (if advance then bcdSucc d.rqs.passage else d.rqs.passage)] } } := by
  simp [offerRecord, joinRecords, h]

theorem offerRecord_overflows (h : 32 ≤ d.rqs.records.length) :
    offerRecord advance make d = { d with
      rqs := { d.rqs with
        passage := if advance then bcdSucc d.rqs.passage else d.rqs.passage,
        flags := d.rqs.flags ||| flagBit .recordOverflow } } := by
  simp [offerRecord, joinRecords, Nat.not_lt.2 h, raise]

/-- R175: kept or discarded, the record advances the passage number. -/
theorem offerRecord_passage (d : Device) :
    (offerRecord advance make d).rqs.passage = if advance then bcdSucc d.rqs.passage else d.rqs.passage := by
  rcases Nat.lt_or_ge d.rqs.records.length 32 with h | h
  · rw [offerRecord_joins advance make h]
  · rw [offerRecord_overflows advance make h]

end Offered

end Sys2Proof.Machine

namespace Sys2Proof.Settled

set_option Elab.async false

open Sys2Proof.Machine

/-- Settles O50: by the room in the queue, and by the carry from digit to digit. -/
theorem recordsAndPassageNumbers : Obligations.RecordsAndPassageNumbers := by
  refine ⟨fun d advance make => ⟨offerRecord_joins advance make, offerRecord_overflows advance make⟩,
    fun d r => ?_, fun d r => ?_, ?_⟩
  · simp [offerCapture, offerRecord_passage]
  · simp [offerSighting, offerRecord_passage]
  · intro n _ digits
    have hdigits : ∀ m, digits m = BitVec.ofNat 24 (bcdDigits 6 m) := fun m =>
      congrArg (BitVec.ofNat 24) (bcdDigits_six m).symm
    rw [hdigits, hdigits]
    exact bcdSucc_bcdDigits n

end Sys2Proof.Settled

/-! ## A load begun from the straps (R188 to R191, R199) -/

namespace Sys2Proof.Machine

set_option Elab.async false

/-- R190, R191: with straps 1 to 31 the read of that page begins. -/
theorem enterLoading_strapped {d : Device} (h : d.pins.stn ≠ 0#5) :
    enterLoading d = { d with
      cfl := { d.cfl with
        station := .loading, number := some d.pins.stn.toNat, role := some d.pins.role, loadStep := .readStation,
        reading := some (d.pins.stn.toNat, d.clock + 2080#32), commonAt := none,
        indicator := .shortPulse, indActive := true, phaseDeadline := some (d.clock + 100000#32) } } := by
  rw [enterLoading, if_neg h]
  rfl

/-- R190: with straps 0 the station stands in CONFIG_FAULT. -/
theorem enterLoading_unstrapped {d : Device} (h : d.pins.stn = 0#5) :
    enterLoading d = { d with
      cfl := { d.cfl with
        station := .configFault, role := some d.pins.role,
        indicator := .shortPulse, indActive := true, phaseDeadline := some (d.clock + 100000#32) } } := by
  rw [enterLoading, if_pos h]
  rfl

/-- R199: a pattern that the conditions still give keeps its phase. -/
theorem refreshIndicator_unchanged {d : Device} (h : indicatorPattern d = d.cfl.indicator) :
    refreshIndicator d = d := by
  rw [refreshIndicator, if_pos h]

/-- R199: a pattern that the conditions newly give is started. -/
theorem refreshIndicator_changed {d : Device} {p : Indicator} (hp : indicatorPattern d = p) (hn : p ≠ d.cfl.indicator) :
    refreshIndicator d = startPattern p d := by
  subst hp
  rw [refreshIndicator, if_neg hn]

/-- R199: a loading station with neither drive unit LOCKED shows SHORT_PULSE. -/
theorem indicatorPattern_loading {d : Device} (hst : d.cfl.station = .loading) (hc : d.cdu.state ≠ .locked)
    (hf : d.fdu.state ≠ .locked) : indicatorPattern d = .shortPulse := by
  simp [indicatorPattern, hst, hc, hf]

/-- R199: a station in CONFIG_FAULT shows STEADY. -/
theorem indicatorPattern_configFault {d : Device} (hst : d.cfl.station = .configFault) :
    indicatorPattern d = .steady := by
  simp [indicatorPattern, hst]

/-- R189: the part at power-on, before the load begins. -/
def poweredOn (stn : BitVec 5) (role : Role) (d : Device) : Device :=
  { resetBlocks d with
    clock := 0#32, pins := { d.pins with rstActive := false, stn := stn, role := role },
    rqs := Rqs.reset 0#24 (flagBit .powerUp) }

theorem powerOnReset_eq (stn : BitVec 5) (role : Role) (d : Device) :
    powerOnReset stn role d = refreshIndicator (enterLoading (poweredOn stn role d)) := rfl

end Sys2Proof.Machine

namespace Sys2Proof.Settled

set_option Elab.async false

open Sys2Proof.Machine

/-- Settles O3: the load shows SHORT_PULSE already; CONFIG_FAULT has STEADY started. -/
theorem powerOnStartsLoad : Obligations.PowerOnStartsLoad := by
  intro stn role s blank
  have hrun (d : Device) (h : refreshIndicator (enterLoading (poweredOn stn role s.dev)) = d) :
      exec (.powerOn stn role) s = .next { s with dev := d } := by
    rw [← h, ← powerOnReset_eq]
    rfl
  have hclock (x : Time) : (poweredOn stn role s.dev).clock + x = x := BitVec.zero_add x
  refine ⟨fun hs => hrun _ ?_, fun hs => hrun _ ?_⟩
  · rw [enterLoading_strapped (d := poweredOn stn role s.dev) hs, refreshIndicator_unchanged]
    · simp only [hclock]
      rfl
    · exact indicatorPattern_loading rfl nofun nofun
  · rw [enterLoading_unstrapped (d := poweredOn stn role s.dev) hs,
      refreshIndicator_changed (indicatorPattern_configFault rfl) (show Indicator.steady ≠ .shortPulse by decide)]
    rfl

end Sys2Proof.Settled

/-! ## The service port: commands taken, waiting and discarded (R178 to R181, R183, R184, R187, R201) -/

namespace Sys2Proof.Machine

set_option Elab.async false

/-! ### The bytes of any command -/

/-- R201: a command is its first byte, which gives its length, and at least a check byte. -/
theorem commandBytes_shape (c : ServiceCommand) :
    ∃ first rest, commandBytes c = first :: rest ∧ rest ≠ [] ∧ (first :: rest).length = commandLength first := by
  cases c with
  | clearLockout u => cases u <;> exact ⟨_, _, rfl, by simp, rfl⟩
  | _ => exact ⟨_, _, rfl, by simp, rfl⟩

/-- R179, R201: a complete command is read back as the one its bytes were built from. -/
theorem judgeCommand_commandBytes (c : ServiceCommand) : judgeCommand (commandBytes c) = some c := by
  cases c with
  | forceBeams c mask pattern => exact judgeCommand_forceBeams c mask pattern
  | clearLockout u => exact judgeCommand_clearLockout u
  | _ => rfl

/-- TABLE 12-3: the command bytes are 51h to 57h. -/
theorem commandLength_eq_zero_iff (b : Byte) : commandLength b = 0 ↔ b < 0x51#8 ∨ 0x57#8 < b := by
  simp only [commandLength]
  split_ifs with h1 h2 h3
  · rcases h1 with rfl | rfl | rfl | rfl | rfl <;> decide
  · subst h2
    decide
  · subst h3
    decide
  · simp only [← BitVec.toNat_inj, BitVec.lt_def, BitVec.reduceToNat, true_iff] at *
    omega

theorem discardedCommand_cons {first : Byte} {rest : List Byte} (h : discardedCommand (first :: rest) = true) :
    commandLength first ≠ 0 ∧ (first :: rest).length = commandLength first ∧ judgeCommand (first :: rest) = none := by
  simpa [discardedCommand, and_assoc] using h

/-- No command is of one byte. -/
theorem commandLength_ne_one (first : Byte) : commandLength first ≠ 1 := by
  simp only [commandLength]
  split_ifs <;> decide

/-! ### A command received whole, or judged -/

theorem judgeInHand_commandBytes (c : ServiceCommand) (d : Device) :
    judgeInHand (commandBytes c) d = completeCommand c d := by
  rw [judgeInHand, judgeCommand_commandBytes]

theorem judgeInHand_discarded {bytes : List Byte} (h : judgeCommand bytes = none) (d : Device) :
    judgeInHand bytes d = raise .serviceError d := by
  rw [judgeInHand, h]

/-- R178, R179: a command received whole by an idle receiver is complete. -/
theorem receiveCommand_commandBytes (c : ServiceCommand) {d : Device} (h : d.rqs.receiver = .idle) :
    receiveCommand (commandBytes c) d = completeCommand c (receiverIdle d) := by
  obtain ⟨first, rest, hb, hne, hl⟩ := commandBytes_shape c
  rw [← judgeInHand_commandBytes, hb, receiveCommand_idle h hne hl]

/-- R179: a full-length command that is discarded leaves SERVICE_ERROR alone. -/
theorem receiveCommand_discarded {bytes : List Byte} {d : Device} (h : d.rqs.receiver = .idle)
    (hb : discardedCommand bytes = true) : receiveCommand bytes d = raise .serviceError (receiverIdle d) := by
  cases bytes with
  | nil => cases hb
  | cons first rest =>
    obtain ⟨-, hl, hj⟩ := discardedCommand_cons hb
    have hne : rest ≠ [] := fun hr => commandLength_ne_one first (by simpa [hr] using hl.symm)
    rw [receiveCommand_idle h hne hl, judgeInHand_discarded hj]

section Complete

variable (c : ServiceCommand) {d : Device}

theorem completeCommand_taken (h : d.rqs.reply = none) : completeCommand c d = takeCommand c d := by
  simp [completeCommand, h]

theorem completeCommand_held {sending : List Byte} (h : d.rqs.reply = some sending) (hh : d.rqs.held = none) :
    completeCommand c d = { d with rqs := { d.rqs with held := some c } } := by
  simp [completeCommand, h, hh]

theorem completeCommand_discarded {sending : List Byte} (h : d.rqs.reply = some sending) (hh : d.rqs.held ≠ none) :
    completeCommand c d = raise .serviceError d := by
  obtain ⟨p, hp⟩ := Option.ne_none_iff_exists'.1 hh
  simp [completeCommand, h, hp]

/-- R180: a command received whole on an idle port is taken. -/
theorem receiveCommand_taken (h : d.rqs.receiver = .idle) (hreply : d.rqs.reply = none) :
    receiveCommand (commandBytes c) d = takeCommand c (receiverIdle d) := by
  rw [receiveCommand_commandBytes c h]
  exact completeCommand_taken c (d := receiverIdle d) hreply

end Complete

/-! ### The commands' effects -/

theorem takeRecordNow_empty {d : Device} (h : d.rqs.records = []) : takeRecordNow d = sendReply 0x52#8 [] d := by
  simp only [takeRecordNow, h]

theorem takeRecordNow_head {d : Device} {r : Record} {rest : List Record} (h : d.rqs.records = r :: rest) :
    takeRecordNow d = sendReply 0x52#8 (recordBytes r) { d with rqs := { d.rqs with records := rest } } := by
  simp only [takeRecordNow, h]

/-- R187, R190: with straps 1 to 31 the load begins afresh, and the reply says LOADING. -/
theorem takeRestart_strapped {d : Device} (h : d.pins.stn ≠ 0#5) :
    takeRestart d =
      { clock := d.clock, pins := d.pins,
        cfl := { Cfl.reset with
          number := some d.pins.stn.toNat, role := some d.pins.role, loadStep := .readStation,
          reading := some (d.pins.stn.toNat, d.clock + 2080#32), indicator := .shortPulse, indActive := true,
          phaseDeadline := some (d.clock + 100000#32) },
        ciu := resetCiu d.ciu, liu := Liu.reset, fx := Fx.reset, ptb := Ptb.reset, htk := Htk.reset, cpl := Cpl.reset,
        crs := Crs.reset, cdu := Cdu.reset, fdu := Fdu.reset,
        rqs := { Rqs.reset d.rqs.passage (flagBit .restarted) with
          reply := some (replyBytes 0x57#8 (bytesOf 3 d.rqs.passage.toNat ++ [0#8])) } } := by
  rw [takeRestart, enterLoading_strapped (by exact h)]
  rfl

/-- R180: at the end of a reply with no command pending the transmitter is IDLE. -/
theorem replyEnds_alone {d : Device} {sending : List Byte} (stn : BitVec 5) (role : Role) (camRdy : Bool)
    (h : d.rqs.reply = some sending) (hh : d.rqs.held = none) :
    replyEnds stn role camRdy d = { d with rqs := { d.rqs with reply := none } } := by
  simp [replyEnds, h, hh]

/-- R180: at the end of a reply the command pending is taken. -/
theorem replyEnds_pending {d : Device} {sending : List Byte} {c : ServiceCommand} (stn : BitVec 5) (role : Role)
    (camRdy : Bool) (h : d.rqs.reply = some sending) (hh : d.rqs.held = some c) :
    replyEnds stn role camRdy d
      = takeCommand c (samplePins c stn role camRdy { d with rqs := { d.rqs with reply := none, held := none } }) := by
  simp [replyEnds, h, hh]

/-! ### The receiver, byte by byte (TABLE 9-6) -/

section Receiver

variable {d : Device} {b : Byte}

theorem receiveByte_idle_command (h : d.rqs.receiver = .idle) (hb : commandLength b ≠ 0) :
    receiveByte false b d = receiverTo .receiving [b] d := by
  simp [receiveByte, h, hb]

theorem receiveByte_idle_error {bad : Bool} (h : d.rqs.receiver = .idle) (hb : bad = true ∨ commandLength b = 0) :
    receiveByte bad b d = receiverTo .discarding [] (raise .serviceError d) := by
  rcases hb with rfl | hb <;> simp [receiveByte, *]

theorem receiveByte_receiving_error (h : d.rqs.receiver = .receiving) :
    receiveByte true b d = receiverTo .discarding [] (raise .serviceError d) := by
  simp [receiveByte, h]

theorem receiveByte_discarding (bad : Bool) (h : d.rqs.receiver = .discarding) :
    receiveByte bad b d = receiverTo .discarding [] d := by
  simp [receiveByte, h]

/-- A byte received while none is in hand samples no input. -/
theorem sampleWith_idle (stn : BitVec 5) (role : Role) (camRdy : Bool) (h : d.rqs.receiver = .idle) :
    sampleWith ⟨b, stn, role, camRdy⟩ d = d := by
  simp [sampleWith, completesCommand, h]

variable {first : Byte} {more : List Byte} (h : d.rqs.receiver = .receiving) (hin : d.rqs.inHand = first :: more)
include h hin

theorem completesCommand_receiving :
    completesCommand b d = true ↔ (d.rqs.inHand ++ [b]).length = commandLength first := by
  simp [completesCommand, h, hin]

/-- R178: a byte that does not complete the command in hand is added to it. -/
theorem received_incomplete (stn : BitVec 5) (role : Role) (camRdy : Bool)
    (hl : (d.rqs.inHand ++ [b]).length ≠ commandLength first) :
    receiveByte false b (sampleWith ⟨b, stn, role, camRdy⟩ d) = receiverTo .receiving (d.rqs.inHand ++ [b]) d := by
  have hs : sampleWith ⟨b, stn, role, camRdy⟩ d = d := by
    rw [sampleWith, if_neg ((completesCommand_receiving h hin).not.2 hl)]
  rw [hs]
  simp [receiveByte, h, hin] at hl ⊢
  omega

/-- R178, R179: the byte that completes the command in hand samples the inputs, and the command is judged. -/
theorem received_complete (stn : BitVec 5) (role : Role) (camRdy : Bool)
    (hl : (d.rqs.inHand ++ [b]).length = commandLength first) :
    receiveByte false b (sampleWith ⟨b, stn, role, camRdy⟩ d)
      = judgeInHand (d.rqs.inHand ++ [b])
          (receiverIdle { d with pins := { d.pins with stn := stn, role := role, camRdy := camRdy } }) := by
  have hs : sampleWith ⟨b, stn, role, camRdy⟩ d
      = { d with pins := { d.pins with stn := stn, role := role, camRdy := camRdy } } := by
    rw [sampleWith, if_pos ((completesCommand_receiving h hin).2 hl)]
  rw [hs]
  simp [receiveByte, h, hin] at hl ⊢
  omega

/-- R178, R201: the byte that makes the bytes in hand those of a command completes it. -/
theorem received_command {c : ServiceCommand} (stn : BitVec 5) (role : Role) (camRdy : Bool)
    (hc : d.rqs.inHand ++ [b] = commandBytes c) :
    receiveByte false b (sampleWith ⟨b, stn, role, camRdy⟩ d)
      = completeCommand c
          (receiverIdle { d with pins := { d.pins with stn := stn, role := role, camRdy := camRdy } }) := by
  obtain ⟨first', rest, hb, -, hl⟩ := commandBytes_shape c
  have hfirst : first = first' := by simpa [hin, hb] using congrArg List.head? hc
  have hlen : (d.rqs.inHand ++ [b]).length = commandLength first := by rw [hc, hb, hl, hfirst]
  rw [received_complete h hin stn role camRdy hlen, hc, judgeInHand_commandBytes]

end Receiver

/-! ### The gap (R178) -/

section Gap

variable {d : Device} {a : Time}

theorem due_reached (hg : d.rqs.gapDeadline = some a) (ha : isAfter a d.clock = false) :
    due d.rqs.gapDeadline d.clock = true := by
  simp [due, hg, ha]

theorem gapExpires_receiving (hd : due d.rqs.gapDeadline d.clock = true) (h : d.rqs.receiver = .receiving) :
    gapExpires d = receiverIdle (raise .serviceError d) := by
  simp [gapExpires, hd, h]

theorem gapExpires_discarding (hd : due d.rqs.gapDeadline d.clock = true) (h : d.rqs.receiver = .discarding) :
    gapExpires d = receiverIdle d := by
  simp [gapExpires, hd, h]

end Gap

end Sys2Proof.Machine

namespace Sys2Proof.Settled

set_option Elab.async false

open Sys2Proof.Machine

/-- Settles O51: each command is received whole and taken. -/
theorem queriesAnswered : Obligations.QueriesAnswered := by
  intro t s d hd hidle hreply answered
  have hrun (c : ServiceCommand) :
      taken t (receiveCommand (commandBytes c)) s = .next (settled s (takeCommand c (receiverIdle d))) := by
    rw [taken_found _ hd, receiveCommand_taken c hidle hreply]
  have hrecord (r : Device) (h : takeRecordNow (receiverIdle d) = r) : exec (.takeRecord t) s = .next (settled s r) :=
    h ▸ hrun .takeRecord
  exact ⟨hrun .status, ⟨_, rfl⟩, fun h => hrecord _ (takeRecordNow_empty (d := receiverIdle d) h),
    fun r rest h => hrecord _ (takeRecordNow_head (d := receiverIdle d) h), hrun .peekPeers, hrun .peekTracks,
    fun b contents => xorBytes_withCheck _⟩

/-- Settles O54: the command is received whole and taken, with the straps as they then stand. -/
theorem restartTaken : Obligations.RestartTaken := by
  intro t stn role s d hd hidle hreply hstn
  let found : Device := { d with pins := { d.pins with stn := stn, role := role } }
  have hrun : exec (.restart t stn role) s = .next (settled s (takeRestart (receiverIdle found))) := by
    change _ = Host.Outcome.next (settled s (takeCommand .restart (receiverIdle found)))
    rw [← receiveCommand_taken .restart (d := found) hidle hreply]
    exact taken_found (fun x => receiveCommand (commandBytes .restart)
      { x with pins := { x.pins with stn := stn, role := role } }) hd
  rw [hrun, takeRestart_strapped (d := receiverIdle found) hstn]
  rfl

/-- Settles O56: every command is received whole, and then waits or is discarded. -/
theorem commandsWait : Obligations.CommandsWait := by
  intro t s d sending hd hidle hreply quiet waits
  have hwaits (i : Instr) (c : ServiceCommand) (pins : Pins)
      (hrun : exec i s = .next (settled s (receiveCommand (commandBytes c) { d with pins := pins }))) :
      waits i c pins := by
    rw [receiveCommand_commandBytes c (d := { d with pins := pins }) hidle] at hrun
    refine ⟨fun hh => ?_, fun hh => ?_⟩
    · rw [hrun, completeCommand_held c (d := receiverIdle { d with pins := pins }) hreply hh]
      simp [receiverIdle, quiet, hidle]
    · rw [hrun, completeCommand_discarded c (d := receiverIdle { d with pins := pins }) hreply hh]
      simp [receiverIdle, raise, quiet, hidle]
  have hplain (c : ServiceCommand) := taken_found (receiveCommand (commandBytes c)) hd
  refine ⟨hwaits _ _ _ (hplain _), hwaits _ _ _ (hplain _), hwaits _ _ _ (hplain _), hwaits _ _ _ (hplain _),
    fun c mask pattern => hwaits _ _ _ (hplain _), fun u camRdy => hwaits _ _ _ ?_, fun stn role => hwaits _ _ _ ?_,
    fun stn role camRdy hh => ?_, fun stn role camRdy hh => ?_⟩
  · exact taken_found (fun x => receiveCommand (commandBytes (.clearLockout u))
      { x with pins := { x.pins with camRdy := camRdy } }) hd
  · exact taken_found (fun x => receiveCommand (commandBytes .restart)
      { x with pins := { x.pins with stn := stn, role := role } }) hd
  · rw [← replyEnds_alone stn role camRdy hreply hh]
    exact taken_found (replyEnds stn role camRdy) hd
  · exact (taken_found (replyEnds stn role camRdy) hd).trans (by rw [replyEnds_pending stn role camRdy hreply hh]; rfl)

/-- Settles O55: a byte by the receiver's state, and by whether it completes the command in hand. -/
theorem receiverGathers : Obligations.ReceiverGathers := by
  intro t s d hd received idle
  have hbyte (b : Byte) (stn : BitVec 5) (role : Role) (camRdy : Bool) (r : Device)
      (h : receiveByte false b (sampleWith ⟨b, stn, role, camRdy⟩ d) = r) :
      exec (.serviceByteReceived t ⟨b, stn, role, camRdy⟩) s = .next (settled s r) :=
    h ▸ taken_found (fun x => receiveByte false b (sampleWith ⟨b, stn, role, camRdy⟩ x)) hd
  have herror (b : Byte) (bad : Bool) (r : Device) (he : erroneousByte bad b d = true) (h : receiveByte bad b d = r) :
      exec (.serviceByteError t b bad) s = .next (settled s r) := by
    refine (taken_found (fun x => if erroneousByte bad b x then receiveByte bad b x else x) hd).trans ?_
    simp only [he, if_true, h]
  refine ⟨fun b stn role camRdy hidle hlo hhi => hbyte b stn role camRdy _ ?_, ?_, fun b bad hidle hb => ?_,
    fun b hrec => herror b true _ rfl (receiveByte_receiving_error hrec),
    fun b bad hdis => herror b bad _ ?_ (receiveByte_discarding bad hdis), fun a hg ha hr => ?_,
    fun bytes hidle hb => ?_, judgeCommand_commandBytes⟩
  · have hb : commandLength b ≠ 0 := fun h0 => by
      have := (commandLength_eq_zero_iff b).1 h0
      bv_omega
    rw [sampleWith_idle stn role camRdy hidle, receiveByte_idle_command hidle hb]
    rfl
  · intro b stn role camRdy first more hrec hin pins whole
    refine ⟨fun hl => hbyte b stn role camRdy _ ?_, fun hl hj => hbyte b stn role camRdy _ ?_,
      fun c sending hc hreply hheld => hbyte b stn role camRdy _ ?_, fun hw hreply => hbyte b stn role camRdy _ ?_⟩
    · exact received_incomplete hrec hin stn role camRdy hl
    · rw [received_complete hrec hin stn role camRdy hl, judgeInHand_discarded hj]
      rfl
    · rw [received_command hrec hin stn role camRdy hc]
      exact completeCommand_held c (d := receiverIdle { d with pins := pins }) hreply hheld
    · rw [received_command (c := .status) hrec hin stn role camRdy hw]
      exact completeCommand_taken .status (d := receiverIdle { d with pins := pins }) hreply
  · rw [← commandLength_eq_zero_iff] at hb
    exact herror b bad _ (by simpa [erroneousByte, hidle] using hb) (receiveByte_idle_error hidle hb)
  · simp [erroneousByte, hdis]
  · refine (taken_found gapExpires hd).trans ?_
    have hdue := due_reached hg ha
    rcases hr with hr | hr
    · rw [gapExpires_receiving hdue hr, hr]
      rfl
    · rw [gapExpires_discarding hdue hr, hr]
      rfl
  · refine (taken_found (fun x => if discardedCommand bytes then receiveCommand bytes x else x) hd).trans ?_
    simp only [hb, if_true]
    rw [receiveCommand_discarded hidle hb]
    simp [receiverIdle, raise, hidle]

end Sys2Proof.Settled

/-! ## Configuration and start-up: the indicator, the page, the load, and entry to RUNNING (R189 to R199) -/

namespace Sys2Proof.Machine

/-! ### Which commands are taken (R189) -/

theorem taken_settles {t : Time} {f : Device → Device} {s : State} {d d' : Device} (hd : FoundAt t s d)
    (h : f d = d') : taken t f s = .next (settled s d') := h ▸ taken_found f hd

/-- How a command comes about: RST_N decides for all but three whether it is taken. -/
inductive CommandKind : Instr → Prop
  | powerOn (stn : BitVec 5) (role : Role) : CommandKind (.powerOn stn role)
  | rstNAsserted : CommandKind .rstNAsserted
  | rawLevelChange (t : Time) (k : Fin 4) (i : Fin 8) (l : Bool) : CommandKind (.rawLevelChange t k i l)
  | taken {c : Instr} (t : Time) (f : Device → Device) (h : ∀ s, exec c s = taken t f s) : CommandKind c

theorem commandKind (c : Instr) : CommandKind c := by
  induction c with
  | powerOn stn role => exact .powerOn stn role
  | rstNAsserted => exact .rstNAsserted
  | rawLevelChange t k i l => exact .rawLevelChange t k i l
  | orphanDeadlineExpires t p =>
    exact .taken t (fun d => if due (sequencer d p).orphanDeadline d.clock then orphanExpires p d else d) fun _ => rfl
  | pulseTimeReached t id k =>
    exact .taken t (fun d => if pulseReached d id k then issuePulses d else d) fun _ => rfl
  | clearLockout t u camRdy =>
    exact .taken t (fun d => receiveCommand (commandBytes (.clearLockout u))
      { d with pins := { d.pins with camRdy := camRdy } }) fun _ => rfl
  | restart t stn role =>
    exact .taken t (fun d => receiveCommand (commandBytes .restart)
      { d with pins := { d.pins with stn := stn, role := role } }) fun _ => rfl
  | invalidCommand t bytes =>
    exact .taken t (fun d => if discardedCommand bytes then receiveCommand bytes d else d) fun _ => rfl
  | serviceByteError t b bad =>
    exact .taken t (fun d => if erroneousByte bad b d then receiveByte bad b d else d) fun _ => rfl
  | serviceByteReceived t x => exact .taken t (fun d => receiveByte false x.value (sampleWith x d)) fun _ => rfl
  | _ => exact .taken _ _ fun _ => rfl

theorem exec_rawLevelChange_held {s : State} (h : s.dev.pins.rstActive = true) (t : Time) (k : Fin 4) (i : Fin 8)
    (l : Bool) : exec (.rawLevelChange t k i l) s =
      .next { s with dev := modifyBeam k i (fun b => { b with raw := l }) s.dev } := if_pos h

theorem exec_rawLevelChange_taken {s : State} (h : s.dev.pins.rstActive = false) (t : Time) (k : Fin 4) (i : Fin 8)
    (l : Bool) : exec (.rawLevelChange t k i l) s = taken t (rawChange k i l) s := if_neg (by simp [h])

/-! ### The indicator shows the pattern that is due (R199) -/

theorem IndicatorShows.of_held {d : Device} (h : d.pins.rstActive = true) : IndicatorShows d :=
  fun hr => absurd (h.symm.trans hr) (by decide)

theorem refreshIndicator_indicatorShows (d : Device) : IndicatorShows (refreshIndicator d) :=
  fun _ => refreshIndicator_shows d

/-- The pattern that is due does not depend on the clock. -/
theorem tick_indicatorShows {d : Device} (h : IndicatorShows d) : IndicatorShows (tick d) := by
  unfold tick
  split
  · exact h
  · exact h

theorem indicatorShows_of_next {o : Host.Outcome State Fault Refusal} {s s' : State} {d : Device}
    (ho : o = .next { s with dev := d }) (hd : IndicatorShows d) (h : o = .next s') : IndicatorShows s'.dev := by
  cases ho.symm.trans h
  exact hd

/-- A command taken works the indicator out again; one not taken finds RST_N active. -/
theorem taken_indicatorShows {t : Time} {f : Device → Device} {s s' : State} (h : taken t f s = .next s') :
    IndicatorShows s'.dev := by
  cases hr : s.dev.pins.rstActive with
  | true => exact indicatorShows_of_next (taken_held f hr) (.of_held hr) h
  | false => exact indicatorShows_of_next (taken_found f ⟨hr, rfl⟩) (refreshIndicator_indicatorShows _) h

theorem rawLevelChange_indicatorShows {t : Time} {k : Fin 4} {i : Fin 8} {l : Bool} {s s' : State}
    (h : exec (.rawLevelChange t k i l) s = .next s') : IndicatorShows s'.dev := by
  cases hr : s.dev.pins.rstActive with
  | true => exact indicatorShows_of_next (exec_rawLevelChange_held hr t k i l) (.of_held hr) h
  | false => exact taken_indicatorShows ((exec_rawLevelChange_taken hr t k i l).symm.trans h)

/-- R199: whatever the indicator showed, a command leaves it as its conditions say. -/
theorem exec_indicatorShows {c : Instr} {s s' : State} (h : exec c s = .next s') : IndicatorShows s'.dev := by
  cases commandKind c with
  | powerOn stn role =>
    exact indicatorShows_of_next (d := powerOnReset stn role s.dev) rfl (refreshIndicator_indicatorShows _) h
  | rstNAsserted => exact indicatorShows_of_next (d := heldReset s.dev) rfl (.of_held rfl) h
  | rawLevelChange t k i l => exact rawLevelChange_indicatorShows h
  | taken t f htaken => exact taken_indicatorShows ((htaken s).symm.trans h)

/-! ### The patterns and their phases (TABLE 10-6) -/

/-- The condition of SHORT_PULSE (TABLE 10-6). -/
def ShortPulseDue (d : Device) : Prop :=
  d.cfl.station = .loading ∨ d.cfl.station = .listening ∨ (∃ c, (curtain d c).dead = true)
    ∨ ∃ x, (verifyD d x).isSome = true ∧ approachCover d x = 0

theorem exists_side {p : Side → Prop} : (∃ x, p x) ↔ p .up ∨ p .down :=
  ⟨fun ⟨x, h⟩ => by cases x; exacts [.inl h, .inr h], fun h => h.elim (⟨_, ·⟩) (⟨_, ·⟩)⟩

theorem shortLead_iff (d : Device) (x : Side) :
    shortLead d x = true ↔ (verifyD d x).isSome = true ∧ approachCover d x = 0 := by
  rw [shortLead, Bool.and_eq_true, beq_iff_eq]

theorem shortPulseDue_iff (d : Device) :
    ShortPulseDue d ↔ d.cfl.station = .loading ∨ d.cfl.station = .listening ∨ anyDead d = true
      ∨ shortLead d .up = true ∨ shortLead d .down = true := by
  rw [ShortPulseDue, anyDead_iff, exists_side, shortLead_iff, shortLead_iff]

/-- TABLE 10-6 below STEADY and SLOW_BLINK. -/
theorem indicatorPattern_unlocked {d : Device} (hst : ¬ (d.cfl.station = .configFault ∨ d.cfl.station = .silent))
    (hc : d.cdu.state ≠ .locked) (hf : d.fdu.state ≠ .locked) :
    (ShortPulseDue d → indicatorPattern d = .shortPulse) ∧ (¬ ShortPulseDue d → indicatorPattern d = .off) := by
  simp only [shortPulseDue_iff, indicatorPattern, if_neg hst, if_neg (not_or.2 ⟨hc, hf⟩)]
  exact ⟨fun h => if_pos h, fun h => if_neg h⟩

theorem nextPhase_of {d : Device} {p : Indicator} {x : Option Time} (h : d.cfl.indicator = p)
    (hx : (phaseLength p (!d.cfl.indActive)).map (laterBy d.clock) = x) :
    nextPhase d = { d with cfl := { d.cfl with indActive := !d.cfl.indActive, phaseDeadline := x } } := by
  subst h hx
  rfl

/-- R199: while the pattern shown is the one due, its phase deadline begins the other part. -/
theorem indicatorPhase_reached {t : Time} {s : State} {d d' : Device} {a : Time} (hd : FoundAt t s d)
    (hp : d.cfl.phaseDeadline = some a) (ha : isAfter a d.clock = false) (hi : d.cfl.indicator = indicatorPattern d)
    (hn : nextPhase d = d') : exec (.indicatorPhaseExpires t) s = .next { s with dev := d' } := by
  subst hn
  have hshown : refreshIndicator (nextPhase d) = nextPhase d := refreshIndicator_unchanged hi.symm
  have hphase : phaseExpires d = nextPhase d := if_pos (due_of_reached hp ha)
  exact (taken_settles hd hphase).trans (congrArg (fun x => Host.Outcome.next { s with dev := x }) hshown)

/-! ### Page validity (R192) -/

/-- Bytes summed as bytes are their sum modulo 256. -/
theorem toNat_foldl_add (l : List Byte) (a : Byte) :
    (l.foldl (· + ·) a).toNat = (a.toNat + (l.map (·.toNat)).sum) % 256 := by
  induction l generalizing a with
  | nil => exact (Nat.mod_eq_of_lt a.isLt).symm
  | cons b l ih =>
    rw [List.foldl_cons, ih, BitVec.toNat_add, Nat.mod_add_mod, List.map_cons, List.sum_cons, Nat.add_assoc]

theorem byteSum_zero_iff (l : List Byte) : l.foldl (· + ·) 0#8 = 0#8 ↔ (l.map (·.toNat)).sum % 256 = 0 := by
  rw [← BitVec.toNat_inj, toNat_foldl_add]
  simp

theorem pageValid_iff (page : List Byte) :
    pageValid page = true
      ↔ (page.length = 256 ∧ byteAt page 0 = 0xA6#8) ∧ page.foldl (· + ·) 0#8 = 0#8 := by
  simp only [pageValid, Bool.and_eq_true, beq_iff_eq]

theorem pageValid_unmarked {page : List Byte} (h : byteAt page 0 ≠ 0xA6#8) : pageValid page = false :=
  Bool.eq_false_iff.2 fun hp => h ((pageValid_iff page).1 hp).1.2

theorem byteAt_eq_iff {page : List Byte} {n : Nat} {b : Byte} (h : n < page.length) :
    byteAt page n = b ↔ page[n]? = some b := by
  rw [byteAt, List.getD_eq_getElem?_getD, List.getElem?_eq_getElem h, Option.getD_some, Option.some_inj]

/-! ### Page reads (R191, R194) -/

theorem readRequest_page {n : Nat} (h : n ≤ 63) : readRequest n = [0x03#8, 0x00#8, BitVec.ofNat 8 n, 0x00#8] := by
  have hhigh : n * 256 / 65536 = 0 := Nat.div_eq_of_lt (Nat.lt_of_le_of_lt (Nat.mul_le_mul_right 256 h) (by decide))
  have hmid : n * 256 / 256 = n := Nat.mul_div_cancel n (by decide)
  have hlow : BitVec.ofNat 8 (n * 256 / 1) = 0x00#8 :=
    BitVec.eq_of_toNat_eq ((congrArg (· % 256) (Nat.div_one _)).trans (Nat.mul_mod_left n 256))
  change [_, BitVec.ofNat 8 (n * 256 / 65536), BitVec.ofNat 8 (n * 256 / 256), BitVec.ofNat 8 (n * 256 / 1)] = _
  rw [hhigh, hmid, hlow]

/-- The part with its page read over. -/
def readOver (camRdy : Bool) (d : Device) : Device :=
  { d with pins := { d.pins with camRdy := camRdy }, cfl := { d.cfl with reading := none } }

/-- R191: where the read of the station page leads. -/
theorem pageComplete_station {page : List Byte} {d : Device} {n : Nat} {e : Time} (camRdy : Bool)
    (hread : d.cfl.reading = some (n, e)) (he : isAfter e d.clock = false) (hs : d.cfl.loadStep = .readStation) :
    pageComplete page camRdy d = if pageValid page then usePage .station page (readOver camRdy d)
      else { readOver camRdy d with
        cfl := { (readOver camRdy d).cfl with loadStep := .readCommon, commonAt := some (d.clock + 10#32) } } := by
  have hdue : due (d.cfl.reading.map (·.2)) d.clock = true := due_of_reached (by rw [hread]; rfl) he
  unfold pageComplete
  rw [hdue, hs]
  rfl

/-- R191: where the read of page 63 leads. -/
theorem pageComplete_common {page : List Byte} {d : Device} {n : Nat} {e : Time} (camRdy : Bool)
    (hread : d.cfl.reading = some (n, e)) (he : isAfter e d.clock = false) (hs : d.cfl.loadStep = .readCommon) :
    pageComplete page camRdy d = if pageValid page then usePage .common page (readOver camRdy d)
      else { readOver camRdy d with cfl := { (readOver camRdy d).cfl with station := .configFault } } := by
  have hdue : due (d.cfl.reading.map (·.2)) d.clock = true := due_of_reached (by rw [hread]; rfl) he
  unfold pageComplete
  rw [hdue, hs]
  rfl

theorem pageComplete_usesPage {page : List Byte} {d : Device} {n : Nat} {e : Time} (camRdy : Bool)
    (hread : d.cfl.reading = some (n, e)) (he : isAfter e d.clock = false) (hp : pageValid page = true)
    (hstep : d.cfl.loadStep = .readStation ∨ d.cfl.loadStep = .readCommon) :
    pageComplete page camRdy d
      = usePage (if d.cfl.loadStep = .readStation then .station else .common) page (readOver camRdy d) := by
  rcases hstep with hs | hs
  · rw [pageComplete_station camRdy hread he hs, if_pos hp, if_pos hs]
  · rw [pageComplete_common camRdy hread he hs, if_pos hp, if_neg (by rw [hs]; decide)]

/-- R193: the page used is noted, and CONFIG_CLAMPED latched when a value was clamped, as LISTENING is entered. -/
theorem usePage_eq (used : PageUsed) (page : List Byte) {d : Device} {role : Role} (h : d.cfl.role = some role) :
    usePage used page d = enterListening (imageOf role page) { d with
      cfl := { d.cfl with pageUsed := used },
      rqs := { d.rqs with
        flags := if pageClamped role page then d.rqs.flags ||| flagBit .configClamped else d.rqs.flags } } := by
  have hrole : d.cfl.role.getD .camera = role := by rw [h]; rfl
  unfold usePage
  rw [hrole]
  exact congrArg (enterListening _) (raise_if ..)

/-! ### Evaluation begins on curtains at their reset values (R2, R24) -/

/-- R24: a curtain holds no more than the levels at its inputs. -/
def AtReset (x : Curtain) : Prop := x = Curtain.reset x.beams ∧ ∀ i, x.beams.get i = resetBeam (x.beams.get i)

theorem resetCiu_atReset {d : Device} (h : d.ciu = resetCiu d.ciu) (c : Fin 4) : AtReset (curtain d c) :=
  ((eq_resetCiu_iff _).1 h).2 c

@[simp] theorem usable_beginStuck (now : Time) (stuck : Nat) (b : Beam) : usable (beginStuck now stuck b) = usable b := by
  unfold beginStuck
  split <;> rfl

/-- R2: the curtain with stuck timing begun for its interrupted beams. -/
def stuckBegun (now : Time) (stuck : Nat) (cu : Curtain) : Curtain :=
  { cu with beams := mapVec (beginStuck now stuck) cu.beams }

/-- R2: stuck timing begun at reset values leaves every beam usable, so the curtain is not DEAD. -/
theorem AtReset.stuckBegun_dead {cu : Curtain} (h : AtReset cu) (now : Time) (stuck : Nat) {m : Nat} (hm : m ≤ 8) :
    (stuckBegun now stuck cu).dead = decide (beamCount usable (stuckBegun now stuck cu) < m) := by
  have hcount : beamCount usable (stuckBegun now stuck cu) = 8 :=
    (beamCount_congr (g := fun _ => true) (y := cu) fun i => by
      rw [stuckBegun, mapVec_get, usable_beginStuck, h.2 i]
      rfl).trans (beamCount_true cu)
  rw [hcount, decide_eq_false (Nat.not_lt.2 hm)]
  exact congrArg Curtain.dead h.1

/-- R2: evaluation of a curtain at its reset values reaches that curtain alone, while min beams is a count of beams. -/
theorem evaluateCurtain_atReset {c : Fin 4} {d : Device} (h : AtReset (curtain d c))
    (hm : ∀ pc, enabledPair d (pairOf c) = some pc → pc.minBeams ≤ 8) :
    ∃ x, evaluateCurtain c d = setCurtain c x d := by
  cases hv : enabledPair d (pairOf c) with
  | none => exact ⟨curtain d c, by rw [evaluateCurtain_disabled hv, setCurtain_self]⟩
  | some pc =>
    have hchanged : evaluateCurtain c d
        = curtainChanged c (setCurtain c (stuckBegun d.clock (stuckMicros d) (curtain d c)) d) := if_pos (by simp [hv])
    have hclear : (stuckBegun d.clock (stuckMicros d) (curtain d c)).breakState = .clear :=
      congrArg Curtain.breakState h.1
    rw [hchanged, curtainChanged_setCurtain _ hv, setsJoined_clear hclear,
      judgeDead_settled _ (h.stuckBegun_dead _ _ (hm pc hv)), judgeBreak_clear (by simpa using hclear)]
    split
    · exact ⟨_, setCurtain_setCurtain ..⟩
    · exact ⟨_, rfl⟩

/-- R2: a sweep over different curtains at their reset values reaches the curtains alone. -/
theorem evaluateCurtains_atReset {l : List (Fin 4)} {d : Device} (hl : l.Nodup) (h : ∀ c ∈ l, AtReset (curtain d c))
    (hm : ∀ p pc, enabledPair d p = some pc → pc.minBeams ≤ 8) :
    ∃ ciu, forEach l evaluateCurtain d = { d with ciu := ciu } := by
  induction l generalizing d with
  | nil => exact ⟨d.ciu, rfl⟩
  | cons c l ih =>
    obtain ⟨hc, hl⟩ := List.nodup_cons.1 hl
    obtain ⟨x, hx⟩ := evaluateCurtain_atReset (h c List.mem_cons_self) (hm _)
    have hrest (k : Fin 4) (hk : k ∈ l) : AtReset (curtain (setCurtain c x d) k) := by
      rw [curtain_setCurtain_other c k x d fun e => hc (e ▸ hk)]
      exact h k (List.mem_cons_of_mem c hk)
    rw [forEach, List.foldl_cons, hx]
    exact ih hl hrest hm

theorem startEvaluation_atReset {d : Device} (h : d.ciu = resetCiu d.ciu)
    (hm : ∀ p pc, enabledPair d p = some pc → pc.minBeams ≤ 8) : ∃ ciu, startEvaluation d = { d with ciu := ciu } :=
  evaluateCurtains_atReset (by decide) (fun c _ => resetCiu_atReset h c) hm

/-! ### Entry to LISTENING (R25, R75, R154, R195) -/

theorem with_cdu_ite (p : Prop) [Decidable p] (d : Device) (x y : Cdu) :
    (if p then { d with cdu := x } else { d with cdu := y }) = { d with cdu := if p then x else y } :=
  (apply_ite (fun z : Cdu => { d with cdu := z }) p x y).symm

/-- R154: the boot window is opened, or a CAM_RDY already active ends BOOTING at this instant. -/
theorem startBoot_eq (im : Image) (d : Device) :
    startBoot im d = { d with
      cdu := if d.pins.camRdy then { d.cdu with state := .idle, timeouts := 0, bootDeadline := none }
        else { d.cdu with
          state := .booting, timeouts := 0,
          bootDeadline := some (d.clock + BitVec.ofNat 32 (im.bootWindow * 1000)) } } :=
  with_cdu_ite ..

theorem blank_of_loading {d : Device} (hst : StationAgrees d) (hreset : ResetHeld d) (hload : d.cfl.station = .loading) :
    Blank d := by
  have hworks : stationWorks d = false := by simp [stationWorks, hload]
  obtain ⟨hciu, hliu, hfx, hptb, hhtk, hcpl, hcrs, hcdu, hfdu⟩ := hreset hworks
  exact ⟨hworks, hst, hciu, hliu, hfx, hptb, hhtk, hcpl, hcrs, hcdu, hfdu⟩

/-- R195: the part as its evaluation begins. -/
def listeningFrom (im : Image) (d : Device) : Device :=
  { d with cfl := { d.cfl with
      station := .listening, loadStep := .done, image := some im, listeningDeadline := some (d.clock + 2000000#32) } }

/-- R154: the boot begins in the camera role alone. -/
def bootCamera (im : Image) (d : Device) : Device := if isCamera d then startBoot im d else d

/-- R25, R75, R154: what follows the evaluation at entry to LISTENING. -/
def beginWatching (im : Image) (d : Device) : Device := bootCamera im (fixVerifySides im (startWatching d))

/-- R2, R195: on curtains at their reset values the evaluation that LISTENING begins reaches the curtains alone. -/
theorem enterListening_atReset {im : Image} {d : Device} (hm : ∀ p, (pairConfig im p).minBeams ≤ 8)
    (hciu : d.ciu = resetCiu d.ciu) :
    ∃ ciu, enterListening im d = beginWatching im { listeningFrom im d with ciu := ciu } := by
  have henabled (p : Fin 2) (pc : PairConfig) (h : enabledPair (listeningFrom im d) p = some pc) : pc.minBeams ≤ 8 :=
    Option.some.inj (Option.ite_none_right_eq_some.1 h).2 ▸ hm p
  obtain ⟨ciu, he⟩ := startEvaluation_atReset (d := listeningFrom im d) hciu henabled
  exact ⟨ciu, congrArg (beginWatching im) he⟩

/-- R25, R75, R154: the line is watched; in the camera role the verify sides are fixed and the boot begins as well. -/
theorem beginWatching_eq {im : Image} {d : Device} {role : Role} {l : Liu} {p : Ptb} {c : Cdu}
    (hrole : d.cfl.role = some role) (hl : d.liu = l) (hp : d.ptb = p) (hc : d.cdu = c) :
    beginWatching im d = { d with
      liu := { l with
        busy := true, quietDeadline := some (d.clock + 10#32),
        pairA := { l.pairA with silenceFrom := some d.clock },
        pairB := { l.pairB with silenceFrom := some d.clock } },
      ptb := if role = .camera then { p with verifyUp := verifySide im .up, verifyDown := verifySide im .down } else p,
      cdu := if role = .camera then
          (if d.pins.camRdy then { c with state := .idle, timeouts := 0, bootDeadline := none }
           else { c with
             state := .booting, timeouts := 0,
             bootDeadline := some (d.clock + BitVec.ofNat 32 (im.bootWindow * 1000)) })
        else c } := by
  subst hl hp hc
  cases role with
  | camera =>
    have hy : isCamera d = true := isCamera_of hrole
    have hfix : fixVerifySides im (startWatching d) = { startWatching d with
        ptb := { d.ptb with verifyUp := verifySide im .up, verifyDown := verifySide im .down } } := if_pos hy
    exact (congrArg (bootCamera im) hfix).trans ((if_pos hy).trans (startBoot_eq ..))
  | approach =>
    have hn : ¬ isCamera d = true := by simp [not_isCamera_of hrole]
    have hfix : fixVerifySides im (startWatching d) = startWatching d := if_neg hn
    exact (congrArg (bootCamera im) hfix).trans (if_neg hn)

/-! ### Entry to RUNNING (R29, R51, R58, R196) -/

/-- R51, R58: the first PRESENCE of a station that has entered RUNNING with nothing queued. -/
theorem enterRunning_first {d : Device} {m : Nat} (hm : presenceMicros d = m) (hq : d.fx.queue = []) :
    enterRunning d = setQueue
      [{ order := d.fx.nextOrder, out := .presence, onLine := false, revision := none, withdrawn := false }]
      { d with
        cfl := { d.cfl with station := .running, listeningDeadline := none },
        fx := { queue := [], nextOrder := d.fx.nextOrder + 1, presenceDeadline := some (laterBy d.clock m) } } := by
  have hfx : { d.fx with presenceDeadline := some (laterBy d.clock (presenceMicros d)) }
      = ⟨[], d.fx.nextOrder, some (laterBy d.clock m)⟩ := by rw [← hq, ← hm]
  unfold enterRunning
  rw [hfx]
  rfl

theorem with_liu_ite (p : Prop) [Decidable p] (d : Device) (x y : Liu) :
    (if p then { d with liu := x } else { d with liu := y }) = { d with liu := if p then x else y } :=
  (apply_ite (fun z : Liu => { d with liu := z }) p x y).symm

/-- R29: the first entry of a queue begins the wait of an EMPTY transmitter, for the idle instant on a BUSY line. -/
theorem setQueue_first {d : Device} {n : Nat} (e : QueueEntry) (ht : d.liu.transmitter = .empty)
    (hr : d.cfl.station = .running) (hc : d.liu.collided = none) (hn : ownNumber d = n) :
    setQueue [e] d = { d with
      fx := { d.fx with queue := [e] },
      liu := if d.liu.busy then { d.liu with transmitter := .waitIdle, waitOrigin := none, slotEnd := none }
        else { d.liu with
          transmitter := .defer, waitOrigin := some d.clock,
          slotEnd := some (laterBy d.clock (deferralWait (classOf e.out) n)) } } := by
  subst hn
  have hkept : forgetCollided { d with fx := { d.fx with queue := [e] } } = { d with fx := { d.fx with queue := [e] } } :=
    forgetCollided_kept fun o ho => absurd (hc.symm.trans ho) nofun
  rw [setQueue, hkept, followQueue_empty (by exact ht) (by exact hr) (by simp)]
  exact with_liu_ite ..

end Sys2Proof.Machine

namespace Sys2Proof.Settled

open Sys2Proof.Machine

/-- Settles O59: a command leaves the indicator as its conditions say, and an idle microsecond changes none of them. -/
theorem indicatorFollows : Obligations.IndicatorFollows := by
  intro s s' h hstep
  unfold step at hstep
  split at hstep
  · exact exec_indicatorShows hstep
  · cases hstep
    exact tick_indicatorShows h

/-- Settles O5: the marker is the byte at place 0, and the byte sum is the sum modulo 256. -/
theorem pageValidity : Obligations.PageValidity := by
  refine ⟨fun page hl => ?_, pageValid_unmarked (by decide), pageValid_unmarked (by decide)⟩
  rw [pageValid_iff, byteSum_zero_iff, byteAt_eq_iff (by rw [hl]; decide), and_iff_right hl]

/-- Settles O7: the page is used, and entry to LISTENING finds every block at its reset values. -/
theorem validPageEntersListening : Obligations.ValidPageEntersListening := by
  intro t page camRdy s d n e role hd hst hreset hload hrole hread he hp hstep
  have hblank := blank_of_loading hst hreset hload
  have hvalid := (pageComplete_usesPage camRdy hread he hp hstep).trans (usePage_eq _ page hrole)
  refine (enterListening_atReset (imageOf_minBeams role page) (by exact hblank.ciu)).imp fun ciu hlisten =>
    taken_settles hd (hvalid.trans (hlisten.trans ?_))
  exact beginWatching_eq hrole hblank.liu hblank.ptb hblank.cdu

/-- Settles O10: the conditions of the table in its order; at the phase deadline the other part begins. -/
theorem indicatorPatterns : Obligations.IndicatorPatterns := by
  refine ⟨fun d => ⟨fun h => if_pos h, fun hst => ?_⟩, fun t s d a hd hp ha hi => ?_⟩
  · have hn : ¬ (d.cfl.station = .configFault ∨ d.cfl.station = .silent) := by
      rcases hst with h | h | h <;> rw [h] <;> decide
    refine ⟨fun h => (if_neg hn).trans (if_pos h), fun hc hf => ?_⟩
    obtain ⟨hpulse, hoff⟩ := indicatorPattern_unlocked hn hc hf
    refine ⟨fun h => hpulse ?_, fun hrun hdead hcover => hoff ?_⟩
    · rcases h with hnot | h
      · exact hst.imp_right fun h => .inl (h.resolve_right hnot)
      · exact .inr (.inr h)
    · rintro (hload | hlisten | ⟨c, hc⟩ | ⟨x, hx, hzero⟩)
      · exact absurd (hrun.symm.trans hload) (by decide)
      · exact absurd (hrun.symm.trans hlisten) (by decide)
      · exact absurd ((hdead c).symm.trans hc) (by decide)
      · exact hcover x hx hzero
  · refine ⟨fun hb => indicatorPhase_reached hd hp ha hi (nextPhase_of hb rfl), fun hb => ?_⟩
    refine indicatorPhase_reached hd hp ha hi (nextPhase_of hb ?_)
    cases d.cfl.indActive <;> rfl

/-- Settles O2: a command taken has no effect while RST_N is active, and the input is all that a change reaches. -/
theorem heldInReset : Obligations.HeldInReset := by
  refine fun s h => ⟨fun c hpower hreset hraw => ?_, exec_rawLevelChange_held h⟩
  cases commandKind c with
  | powerOn stn role => exact absurd rfl (hpower stn role)
  | rstNAsserted => exact absurd rfl hreset
  | rawLevelChange t k i l => exact absurd rfl (hraw t k i l)
  | taken t f htaken => rw [htaken, taken_held f h]

/-- Settles O4: each output is worked out from a block at its reset values. -/
theorem resetPinStopsOutputs : Obligations.ResetPinStopsOutputs := by
  intro s
  refine ⟨heldReset s.dev, rfl, rfl, rfl, rfl, rfl, rfl, rfl, rfl, rfl, rfl, rfl, fun c i => ?_⟩
  change (((resetCiu s.dev.ciu).curtains.get c).beams.get i).raw = _
  rw [resetCiu_get, Curtain.reset, mapVec_get]
  rfl

/-- Settles O6: by the load step an invalid page is read in, and by the instant page 63 waits for. -/
theorem invalidPagesLead : Obligations.InvalidPagesLead := by
  refine ⟨fun d n e hn hread => ?_, fun t s d hd => ⟨fun page camRdy n e hread he hp => ?_, fun a hc ha => ?_⟩⟩
  · rw [memoryRequest, hread, Option.map_some, readRequest_page hn]
  · have hn : ¬ pageValid page = true := by simp [hp]
    exact ⟨fun hs => taken_settles hd ((pageComplete_station camRdy hread he hs).trans (if_neg hn)),
      fun hs => taken_settles hd ((pageComplete_common camRdy hread he hs).trans (if_neg hn))⟩
  · exact taken_settles hd (if_pos (due_of_reached hc ha))

/-- Settles O9: the first PRESENCE joins an empty queue, and the EMPTY transmitter begins its wait. -/
theorem listeningEndsInRunning : Obligations.ListeningEndsInRunning := by
  intro t s d a n im hd hsends hst hl ha hn hi hcoll
  have hidle : d.cfl.station ≠ .running := by simp [hst]
  have hq : d.fx.queue = [] := (hsends hidle).1
  have ht : d.liu.transmitter = .empty := (hsends hidle).2.1
  have hlistening : listeningExpires d = enterRunning d := if_pos (due_of_reached hl ha)
  have hmicros : presenceMicros d = im.presencePeriod * 1000 := by rw [presenceMicros, hi]; rfl
  have hnumber : ownNumber d = n := by rw [ownNumber, hn]; rfl
  exact taken_settles hd ((hlistening.trans (enterRunning_first hmicros hq)).trans
    (setQueue_first _ ht rfl hcoll hnumber))

end Sys2Proof.Settled

/-! ## The fields of a frame (R38, R46 to R48, R60, R61, R200)

Each body is read field by field, from its first byte on. -/

namespace Sys2Proof.Machine

/-! ### Numbers in bytes -/

theorem toNat_byteOf {n : Nat} (h : n < 256) : (byteOf n).toNat = n :=
  (BitVec.toNat_ofNat ..).trans (Nat.mod_eq_of_lt h)

/-- The bytes of a number, read after those of `m`. -/
theorem foldl_bytesOf (k n m : Nat) :
    (bytesOf k n).foldl (fun a b => a * 256 + b.toNat) m = m * 256 ^ k + n % 256 ^ k := by
  induction k generalizing m with
  | zero => simp [bytesOf, Nat.mod_one]
  | succ k ih =>
    have hn : n % 256 ^ (k + 1) = n % 256 ^ k + 256 ^ k * (n / 256 ^ k % 256) := by rw [pow_succ, Nat.mod_mul]
    have hb : (byteOf (n / 256 ^ k)).toNat = n / 256 ^ k % 256 := BitVec.toNat_ofNat ..
    rw [bytesOf, List.foldl_cons, ih, hn, hb]
    ring

/-- k bytes carry a number below 256 ^ k. -/
theorem numberOf_bytesOf {k n : Nat} (h : n < 256 ^ k) : numberOf (bytesOf k n) = n := by
  rw [numberOf, foldl_bytesOf, Nat.mod_eq_of_lt h, Nat.zero_mul, Nat.zero_add]

theorem byteAt_station {n : Nat} (hn : n ≤ 31) (kind : Byte) (rest : List Byte) :
    (byteAt (kind :: byteOf n :: rest) 1).toNat = n := toNat_byteOf (hn.trans_lt (by decide))

/-- The bytes of a number, read at their place. -/
theorem numberAt_eq {body : List Byte} {i k n : Nat} (h : n < 256 ^ k) (hbytes : (body.drop i).take k = bytesOf k n) :
    numberAt body i k = n := by
  rw [numberAt, hbytes, numberOf_bytesOf h]

/-- A number that stands behind a first part of a body. -/
theorem numberAt_append {l : List Byte} {m : Nat} (h : l.length = m) (rest : List Byte) (i k : Nat) :
    numberAt (l ++ rest) (m + i) k = numberAt rest i k := by
  subst h
  rw [numberAt, List.drop_length_add_append, numberAt]

/-! ### Flags bytes (log 14) -/

theorem testBit_numberOfBits (bits : List Bool) (i : Nat) : (numberOfBits bits).testBit i = bits.getD i false := by
  induction bits generalizing i with
  | nil => simp [numberOfBits]
  | cons b bits ih =>
    cases i with
    | zero => cases b <;> simp [numberOfBits]
    | succ i =>
      have hhalf : numberOfBits (b :: bits) / 2 = numberOfBits bits :=
        (Nat.mul_add_div Nat.two_pos _ _).trans (by cases b <;> rfl)
      rw [Nat.testBit_succ, hhalf, ih, List.getD_cons_succ]

/-- A bit the layout names is the bit given for it, whatever the others are. -/
theorem getLsbD_namedBits (place : Nat) {bits : List Bool} {i : Nat} (hi : i < bits.length) (hl : bits.length ≤ 8) :
    (namedBits place bits).getLsbD i = bits[i] := by
  have h8 : i < 8 := hi.trans_le hl
  simp only [namedBits, withSpare, byteOf, BitVec.getLsbD_or, BitVec.getLsbD_and, BitVec.getLsbD_not,
    BitVec.getLsbD_ofNat, testBit_numberOfBits, Nat.testBit_two_pow_sub_one, hi, h8]
  simp [hi]

/-! ### One mark of a PRESENCE -/

/-- 4.1, R60: the ranges of a mark's fields. -/
def MarkInRange (m : Mark) : Prop :=
  1 ≤ m.track ∧ m.track ≤ 4 ∧ 500 ≤ m.d ∧ m.d ≤ 1000000 ∧ 1000 ≤ m.b ∧ m.b ≤ 4000

theorem length_markBytes (m : Mark) : (markBytes m).length = 9 := by simp [markBytes, length_bytesOf]

theorem length_flatMap_markBytes (marks : List Mark) : (marks.flatMap markBytes).length = 9 * marks.length := by
  simp [List.length_flatMap, length_markBytes, Nat.mul_comm]

theorem sideCode_le (x : Side) : (sideCode x).toNat ≤ 1 := by cases x <;> decide

theorem side_of_sideCode (x : Side) : (if (sideCode x).toNat = 0 then Side.up else .down) = x := by cases x <;> rfl

theorem boolByte_le (b : Bool) : (boolByte b).toNat ≤ 1 := by cases b <;> decide

theorem boolByte_beq_one (b : Bool) : ((boolByte b).toNat == 1) = b := by cases b <;> rfl

/-- R46, R60: a mark entry, whatever follows it. -/
theorem readMark_markBytes {m : Mark} (h : MarkInRange m) (rest : List Byte) :
    readMark (markBytes m ++ rest) = some m := by
  obtain ⟨ht, ht', hd, hd', hb, hb'⟩ := h
  have hpair : (byteAt (markBytes m ++ rest) 0).toNat = m.pair.val := toNat_byteOf (m.pair.isLt.trans (by decide))
  have htrack : (byteAt (markBytes m ++ rest) 1).toNat = m.track := toNat_byteOf (ht'.trans_lt (by decide))
  have hside : byteAt (markBytes m ++ rest) 2 = sideCode m.side := rfl
  have hdist : numberAt (markBytes m ++ rest) 3 3 = m.d := numberAt_eq (hd'.trans_lt (by decide)) rfl
  have hbeam : numberAt (markBytes m ++ rest) 6 2 = m.b := numberAt_eq (hb'.trans_lt (by decide)) rfl
  have hdead : byteAt (markBytes m ++ rest) 8 = boolByte m.dead := rfl
  simp only [readMark, hpair, htrack, hside, hdist, hbeam, hdead]
  rw [dif_pos m.pair.isLt, if_pos ⟨ht, ht', sideCode_le _, hd, hd', hb, hb', boolByte_le _⟩, side_of_sideCode,
    boolByte_beq_one]

/-! ### The marks list of a PRESENCE (log 27) -/

theorem pairs_of_lt : ∀ {p q : Fin 2}, p < q → p = 0 ∧ q = 1 := by decide

/-- Pair indices ascend through at most one mark of each of the two pairs. -/
theorem marks_of_ascending {marks : List Mark} (h : (marks.map (·.pair)).Pairwise (· < ·)) :
    marks = [] ∨ (∃ m, marks = [m]) ∨ ∃ m m', marks = [m, m'] ∧ m.pair = 0 ∧ m'.pair = 1 := by
  match marks, h with
  | [], _ => exact .inl rfl
  | [m], _ => exact .inr (.inl ⟨m, rfl⟩)
  | [m, m'], h => exact .inr (.inr ⟨m, m', rfl, pairs_of_lt (List.rel_of_pairwise_cons h List.mem_cons_self)⟩)
  | m :: m' :: m'' :: _, h =>
    have hone : m'.pair = 1 := (pairs_of_lt (List.rel_of_pairwise_cons h List.mem_cons_self)).2
    have hzero : m'.pair = 0 := (pairs_of_lt (List.rel_of_pairwise_cons h.of_cons List.mem_cons_self)).1
    exact absurd (hzero.symm.trans hone) (by decide)

theorem length_of_ascending {marks : List Mark} (h : (marks.map (·.pair)).Pairwise (· < ·)) : marks.length ≤ 2 := by
  obtain rfl | ⟨m, rfl⟩ | ⟨m, m', rfl, -⟩ := marks_of_ascending h <;> simp

/-- R46, R60: the marks that stand in a body after its seventh byte, counted by that byte. -/
theorem readMarks_eq {body : List Byte} {marks : List Mark} (hcount : (byteAt body 6).toNat = marks.length)
    (hdrop : body.drop 7 = marks.flatMap markBytes) (h : (marks.map (·.pair)).Pairwise (· < ·))
    (hr : ∀ m ∈ marks, MarkInRange m) : readMarks body = some marks := by
  have hsecond : body.drop 16 = (marks.flatMap markBytes).drop 9 := by rw [← hdrop, List.drop_drop]
  rw [readMarks, hcount, hdrop, hsecond]
  obtain rfl | ⟨m, rfl⟩ | ⟨m, m', rfl, hm, hm'⟩ := marks_of_ascending h
  · rfl
  · have hread := readMark_markBytes (hr m (by simp)) []
    rw [List.append_nil] at hread
    simp [hread]
  · have hread := readMark_markBytes (hr m (by simp)) (markBytes m')
    have hread' := readMark_markBytes (hr m' (by simp)) []
    rw [List.append_nil] at hread'
    simp [hread, hread', List.drop_left' (length_markBytes m), hm, hm']

/-! ### The index slots of a CLAIM (R48, R200) -/

/-- Indices strictly ascending, each below n. -/
theorem ascendingBelow_iff {n : Nat} {l : List Nat} :
    ascendingBelow n l = true ↔ l.Pairwise (· < ·) ∧ ∀ k ∈ l, k < n := by
  fun_induction ascendingBelow n l with
  | case1 => simp
  | case2 k => simp
  | case3 k k' rest ih =>
    rw [Bool.and_eq_true, ih, decide_eq_true_iff, List.pairwise_cons_cons_iff_of_trans]
    constructor
    · rintro ⟨hk, hrest, hlt⟩
      exact ⟨⟨hk, hrest⟩, List.forall_mem_cons.2 ⟨hk.trans (hlt k' List.mem_cons_self), hlt⟩⟩
    · rintro ⟨⟨hk, hrest⟩, hlt⟩
      exact ⟨hk, hrest, (List.forall_mem_cons.1 hlt).2⟩

/-- At most n indices ascend strictly below n. -/
theorem length_of_ascendingBelow {n : Nat} {l : List Nat} (h : ascendingBelow n l = true) : l.length ≤ n := by
  obtain ⟨hl, hlt⟩ := ascendingBelow_iff.1 h
  have hsub : l ⊆ List.range n := fun k hk => List.mem_range.2 (hlt k hk)
  simpa using (hl.nodup.subperm hsub).length_le

theorem length_claimSlots (l : List Nat) : (claimSlots l).length = 4 := by simp [claimSlots]

/-- R200: the first slots hold the flashed indices, whatever follows the slots. -/
theorem take_claimSlots {l : List Nat} (hl : l.length ≤ 4) (rest : List Byte) :
    (claimSlots l ++ rest).take l.length = l.map byteOf := by
  rw [List.take_append_of_le_length (by rwa [length_claimSlots]), claimSlots, List.take_take, Nat.min_eq_left hl,
    List.take_left' (List.length_map ..)]

theorem map_toNat_byteOf {l : List Nat} (h : ∀ k ∈ l, k < 256) : (l.map byteOf).map (·.toNat) = l := by
  rw [List.map_map]
  exact (List.map_congr_left fun k hk => toNat_byteOf (h k hk)).trans (List.map_id l)

/-! ### A body agrees with its kind (R38, R200) -/

theorem length_claimBody (n : Nat) (c : ClaimContents) (lead : Nat) : (claimBody n c lead).length = 27 := by
  simp [claimBody, length_bytesOf, length_claimSlots]

section

variable {n : Nat} (hn : 1 ≤ n) (hn' : n ≤ 31)
include hn hn'

theorem bodyAgrees_presenceBody (role : Role) (period : Nat) (flash camera : Bool) {marks : List Mark}
    (h : (marks.map (·.pair)).Pairwise (· < ·)) : bodyAgrees (presenceBody n role period flash camera marks) = true := by
  have hl := length_of_ascending h
  have hstation : (byteAt (presenceBody n role period flash camera marks) 1).toNat = n := byteAt_station hn' ..
  have hkind : byteAt (presenceBody n role period flash camera marks) 0 = kindPresence := rfl
  have hcount : (byteAt (presenceBody n role period flash camera marks) 6).toNat = marks.length :=
    toNat_byteOf (hl.trans_lt (by decide))
  have hlen : (presenceBody n role period flash camera marks).length = 7 + 9 * marks.length := by
    rw [presenceBody, List.length_append, length_flatMap_markBytes]
    rfl
  simp [bodyAgrees, hstation, hkind, hcount, hlen, hn, hn', hl]

theorem bodyAgrees_sightingBody (c : SightingContents) (age : Nat) : bodyAgrees (sightingBody n c age) = true := by
  have hstation : (byteAt (sightingBody n c age) 1).toNat = n := byteAt_station hn' ..
  have hkind : byteAt (sightingBody n c age) 0 = kindSighting := rfl
  have hlen : (sightingBody n c age).length = 15 := rfl
  simp [bodyAgrees, hstation, hkind, hlen, hn, hn', kindSighting, kindPresence]

theorem bodyAgrees_claimBody {c : ClaimContents} (lead : Nat) (hl : c.flashed.length ≤ 4) :
    bodyAgrees (claimBody n c lead) = true := by
  have hstation : (byteAt (claimBody n c lead) 1).toNat = n := byteAt_station hn' ..
  have hkind : byteAt (claimBody n c lead) 0 = kindClaim := rfl
  have hcount : (byteAt (claimBody n c lead) 6).toNat = c.flashed.length := toNat_byteOf (hl.trans_lt (by decide))
  have hflag : (byteAt (claimBody n c lead) 4).getLsbD 0 = !c.flashed.isEmpty :=
    getLsbD_namedBits placeClaimFlags (i := 0) (by simp) (by simp)
  have hempty : (!c.flashed.isEmpty) = decide (c.flashed.length ≠ 0) := by cases c.flashed <;> rfl
  simp only [bodyAgrees, hstation, hkind, hcount, hflag, hempty, hl, hn, hn', length_claimBody, kindClaim, kindSighting,
    kindPresence]
  simp

theorem bodyAgrees_releaseBody (id : Byte) : bodyAgrees (releaseBody n id) = true := by
  have hstation : (byteAt (releaseBody n id) 1).toNat = n := byteAt_station hn' ..
  have hkind : byteAt (releaseBody n id) 0 = kindRelease := rfl
  have hlen : (releaseBody n id).length = 3 := rfl
  simp [bodyAgrees, hstation, hkind, hlen, hn, hn', kindRelease, kindClaim, kindSighting, kindPresence]

end

/-! ### A body is read by its kind (R60) -/

theorem readFrame_presence {body : List Byte} (h : byteAt body 0 = kindPresence) :
    readFrame body = (readPresence body).map .presence := if_pos h

theorem readFrame_sighting {body : List Byte} (h : byteAt body 0 = kindSighting) :
    readFrame body = (readSighting body).map .sighting := by
  rw [readFrame, h, if_neg (by decide), if_pos rfl]

theorem readFrame_claim {body : List Byte} (h : byteAt body 0 = kindClaim) :
    readFrame body = (readClaim body).map .claim := by
  rw [readFrame, h, if_neg (by decide), if_neg (by decide), if_pos rfl]

/-! ### PRESENCE (R46) -/

theorem roleCode_le (r : Role) : (roleCode r).toNat ≤ 1 := by cases r <;> decide

theorem role_of_roleCode (r : Role) : (if (roleCode r).toNat = 0 then Role.camera else .approach) = r := by
  cases r <;> rfl

theorem readFrame_presenceBody (n : Nat) (role : Role) {period : Nat} (flash camera : Bool) {marks : List Mark}
    (hp : 50 ≤ period) (hp' : period ≤ 1000) (h : (marks.map (·.pair)).Pairwise (· < ·))
    (hr : ∀ m ∈ marks, MarkInRange m) :
    readFrame (presenceBody n role period flash camera marks) = some (.presence
      { role := role, period := period, flashLockout := flash, cameraLockout := camera, marks := marks }) := by
  have hl := length_of_ascending h
  have hmarks : readMarks (presenceBody n role period flash camera marks) = some marks :=
    readMarks_eq (toNat_byteOf (hl.trans_lt (by decide))) rfl h hr
  have hrole : byteAt (presenceBody n role period flash camera marks) 2 = roleCode role := rfl
  have hperiod : numberAt (presenceBody n role period flash camera marks) 3 2 = period :=
    numberAt_eq (hp'.trans_lt (by decide)) rfl
  have hflash : (byteAt (presenceBody n role period flash camera marks) 5).getLsbD 0 = flash :=
    getLsbD_namedBits placePresenceLockouts (i := 0) (by simp) (by simp)
  have hcamera : (byteAt (presenceBody n role period flash camera marks) 5).getLsbD 1 = camera :=
    getLsbD_namedBits placePresenceLockouts (i := 1) (by simp) (by simp)
  have hread : readPresence (presenceBody n role period flash camera marks) = some
      { role := role, period := period, flashLockout := flash, cameraLockout := camera, marks := marks } := by
    simp only [readPresence, hrole, hperiod, hflash, hcamera, hmarks]
    rw [if_pos ⟨roleCode_le role, hp, hp'⟩, role_of_roleCode, Option.map_some]
  rw [readFrame_presence rfl, hread, Option.map_some]

/-! ### SIGHTING (R47) -/

/-- R47: a band is absent, or its bounds are 1 to 8000 in order. -/
def BandInRange (band : Option (Nat × Nat)) : Prop :=
  ∀ low high, band = some (low, high) → 1 ≤ low ∧ low ≤ high ∧ high ≤ 8000

/-- The two numbers of a band pass R60 and carry it. -/
theorem BandInRange.bounds {band : Option (Nat × Nat)} (h : BandInRange band) :
    (band.elim 0 (·.1) = 0 ↔ band.elim 0 (·.2) = 0) ∧ band.elim 0 (·.1) ≤ band.elim 0 (·.2) ∧ band.elim 0 (·.2) ≤ 8000
      ∧ (if band.elim 0 (·.1) = 0 then none else some (band.elim 0 (·.1), band.elim 0 (·.2))) = band := by
  match band, h with
  | none, _ => simp
  | some (low, high), h =>
    obtain ⟨hlow, hle, hhigh⟩ := h low high rfl
    have hlow0 : low ≠ 0 := by omega
    have hhigh0 : high ≠ 0 := by omega
    simp [hlow0, hhigh0, hle, hhigh]

theorem readFrame_sightingBody (n : Nat) {c : SightingContents} {age : Nat} (ht : 1 ≤ c.track) (ht' : c.track ≤ 4)
    (hv : 500 ≤ c.v) (hv' : c.v ≤ 120000) (ha : age ≤ 65535) (hb : BandInRange c.band) :
    readFrame (sightingBody n c age) = some (.sighting
      { pair := c.pair, track := c.track, seq := c.seq, age := age, v := c.v, band := c.band, clamped := c.clamped,
        partialHeight := c.partialHeight, forced := c.forced }) := by
  obtain ⟨hzero, hle, hhigh, hband⟩ := hb.bounds
  have hpair : (byteAt (sightingBody n c age) 2).toNat = c.pair.val := toNat_byteOf (c.pair.isLt.trans (by decide))
  have htrack : (byteAt (sightingBody n c age) 3).toNat = c.track := toNat_byteOf (ht'.trans_lt (by decide))
  have hseq : byteAt (sightingBody n c age) 4 = c.seq := rfl
  have hage : numberAt (sightingBody n c age) 5 2 = age := numberAt_eq (ha.trans_lt (by decide)) rfl
  have hspeed : numberAt (sightingBody n c age) 7 3 = c.v := numberAt_eq (hv'.trans_lt (by decide)) rfl
  have hbottom : numberAt (sightingBody n c age) 10 2 = c.band.elim 0 (·.1) :=
    numberAt_eq ((hle.trans hhigh).trans_lt (by decide)) rfl
  have htop : numberAt (sightingBody n c age) 12 2 = c.band.elim 0 (·.2) := numberAt_eq (hhigh.trans_lt (by decide)) rfl
  have hclamped : (byteAt (sightingBody n c age) 14).getLsbD 0 = c.clamped :=
    getLsbD_namedBits placeSightingFrame (i := 0) (by simp) (by simp)
  have hpartial : (byteAt (sightingBody n c age) 14).getLsbD 1 = c.partialHeight :=
    getLsbD_namedBits placeSightingFrame (i := 1) (by simp) (by simp)
  have hforced : (byteAt (sightingBody n c age) 14).getLsbD 2 = c.forced :=
    getLsbD_namedBits placeSightingFrame (i := 2) (by simp) (by simp)
  have hread : readSighting (sightingBody n c age) = some
      { pair := c.pair, track := c.track, seq := c.seq, age := age, v := c.v, band := c.band, clamped := c.clamped,
        partialHeight := c.partialHeight, forced := c.forced } := by
    simp only [readSighting, hpair, htrack, hseq, hage, hspeed, hbottom, htop, hclamped, hpartial, hforced]
    rw [dif_pos c.pair.isLt, if_pos ⟨ht, ht', hv, hv', hzero, hle, hhigh⟩, hband]
  rw [readFrame_sighting rfl, hread, Option.map_some]

/-! ### CLAIM and RELEASE (R48, R200) -/

/-- R48, R60: the ranges of a CLAIM's fields, but for the lead. -/
def ClaimInRange (c : ClaimContents) : Prop :=
  1 ≤ c.track ∧ c.track ≤ 4 ∧ 1 ≤ c.n ∧ c.n ≤ 4 ∧ c.s % 2 = 0 ∧ 2 ≤ c.s ∧ c.s ≤ 4000000 ∧ 2 ≤ c.e ∧ c.e ≤ 2000
    ∧ 50 ≤ c.tol ∧ c.tol ≤ 187900 ∧ ascendingBelow c.n c.flashed = true

theorem ClaimInRange.flashed_length {c : ClaimContents} (h : ClaimInRange c) : c.flashed.length ≤ 4 := by
  obtain ⟨-, -, -, hn, -, -, -, -, -, -, -, hf⟩ := h
  exact (length_of_ascendingBelow hf).trans hn

/-- The four numbers of a CLAIM stand behind its slots. -/
theorem numberAt_claimBody (n : Nat) (c : ClaimContents) (lead i : Nat) :
    numberAt (claimBody n c lead) (11 + i) 4
      = numberAt (bytesOf 4 lead ++ (bytesOf 4 c.s ++ (bytesOf 4 c.e ++ bytesOf 4 c.tol))) i 4 := by
  rw [claimBody, List.append_assoc, List.append_assoc, List.append_assoc]
  exact numberAt_append (by rw [List.length_append, length_claimSlots]; rfl) ..

/-- The index slots that count are the flashed indices. -/
theorem flashed_claimBody (n : Nat) {c : ClaimContents} (lead : Nat) (hc : c.n ≤ 4)
    (hf : ascendingBelow c.n c.flashed = true) :
    (((claimBody n c lead).drop 7).take (byteAt (claimBody n c lead) 6).toNat).map (·.toNat) = c.flashed := by
  have hl : c.flashed.length ≤ 4 := (length_of_ascendingBelow hf).trans hc
  have hcount : (byteAt (claimBody n c lead) 6).toNat = c.flashed.length := toNat_byteOf (hl.trans_lt (by decide))
  have hslots : (claimBody n c lead).drop 7
      = claimSlots c.flashed ++ bytesOf 4 lead ++ bytesOf 4 c.s ++ bytesOf 4 c.e ++ bytesOf 4 c.tol := rfl
  rw [hcount, hslots, List.append_assoc, List.append_assoc, List.append_assoc, take_claimSlots hl]
  exact map_toNat_byteOf fun k hk => ((ascendingBelow_iff.1 hf).2 k hk).trans (hc.trans_lt (by decide))

theorem readFrame_claimBody (n : Nat) {c : ClaimContents} {lead : Nat} (h : ClaimInRange c) (hlead : lead ≤ 4000000) :
    readFrame (claimBody n c lead) = some (.claim
      { trackId := c.trackId, track := c.track, flash := !c.flashed.isEmpty, n := c.n, flashed := c.flashed,
        lead := lead, s := c.s, e := c.e, tol := c.tol }) := by
  obtain ⟨ht, ht', hc, hc', heven, hs, hs', he, he', htol, htol', hf⟩ := h
  have htrack : (byteAt (claimBody n c lead) 3).toNat = c.track := toNat_byteOf (ht'.trans_lt (by decide))
  have hsize : (byteAt (claimBody n c lead) 5).toNat = c.n := toNat_byteOf (hc'.trans_lt (by decide))
  have hflashed := flashed_claimBody n lead hc' hf
  have hlead32 : numberAt (claimBody n c lead) 11 4 = lead :=
    (numberAt_claimBody n c lead 0).trans (numberAt_eq (hlead.trans_lt (by decide)) rfl)
  have hspacing : numberAt (claimBody n c lead) 15 4 = c.s :=
    (numberAt_claimBody n c lead 4).trans (numberAt_eq (hs'.trans_lt (by decide)) rfl)
  have hexposure : numberAt (claimBody n c lead) 19 4 = c.e :=
    (numberAt_claimBody n c lead 8).trans (numberAt_eq (he'.trans_lt (by decide)) rfl)
  have htolerance : numberAt (claimBody n c lead) 23 4 = c.tol :=
    (numberAt_claimBody n c lead 12).trans (numberAt_eq (htol'.trans_lt (by decide)) rfl)
  have hread : readClaim (claimBody n c lead) = some
      { trackId := c.trackId, track := c.track, flash := !c.flashed.isEmpty, n := c.n, flashed := c.flashed,
        lead := lead, s := c.s, e := c.e, tol := c.tol } := by
    simp only [readClaim, htrack, hsize, hflashed, hlead32, hspacing, hexposure, htolerance]
    exact if_pos ⟨ht, ht', hc, hc', heven, hs, hs', he, he', htol, htol', hlead, hf⟩
  rw [readFrame_claim rfl, hread, Option.map_some]

theorem readFrame_releaseBody (n : Nat) (id : Byte) : readFrame (releaseBody n id) = some (.release id) := rfl

end Sys2Proof.Machine

namespace Sys2Proof.Settled

open Sys2Proof.Machine

/-- Settles O28, kind by kind: the body agrees, its second byte is the station, and its fields are read back. -/
theorem frameFieldsRoundTrip : Obligations.FrameFieldsRoundTrip := by
  intro n hn hn'
  refine ⟨?presence, ?sighting, ?claim, ?release⟩
  case presence =>
    intro role period flash camera marks hp hp' hm hr
    exact ⟨bodyAgrees_presenceBody hn hn' role period flash camera hm, byteAt_station hn' ..,
      readFrame_presenceBody n role flash camera hp hp' hm hr⟩
  case sighting =>
    intro c age ht ht' hv hv' ha hb
    exact ⟨bodyAgrees_sightingBody hn hn' c age, byteAt_station hn' .., readFrame_sightingBody n ht ht' hv hv' ha hb⟩
  case claim =>
    intro c lead ht ht' hc hc' heven hs hs' he he' htol htol' hlead hf
    have hrange : ClaimInRange c := ⟨ht, ht', hc, hc', heven, hs, hs', he, he', htol, htol', hf⟩
    exact ⟨bodyAgrees_claimBody hn hn' lead hrange.flashed_length, byteAt_station hn' ..,
      readFrame_claimBody n hrange hlead⟩
  case release =>
    intro id
    exact ⟨bodyAgrees_releaseBody hn hn' id, byteAt_station hn' .., readFrame_releaseBody n id⟩

end Sys2Proof.Settled

/-! ## The front of the queue (0, Local Time; log 2) -/

namespace Sys2Proof.Machine

theorem tick_running {d : Device} (h : d.pins.rstActive = false) : tick d = { d with clock := d.clock + 1#32 } := by
  simp [tick, h]

/-- The clock stands while RST_N is active. -/
theorem tick_held {d : Device} (h : d.pins.rstActive = true) : tick d = d := by simp [tick, h]

theorem step_front {s : State} {c : Instr} {rest : List Instr} (h : s.pending = c :: rest) :
    step s = exec c { s with pending := rest } := by
  rw [step, h]

theorem step_idle {s : State} (h : s.pending = []) : step s = .next { s with dev := tick s.dev } := by
  rw [step, h]

end Sys2Proof.Machine

namespace Sys2Proof.Settled

open Sys2Proof.Machine

/-- Settles O1: by the queue, and with an empty queue by RST_N, which decides whether the clock moves. -/
theorem stepTakesFront : Obligations.StepTakesFront := by
  refine ⟨fun c rest s hfront => step_front hfront, fun s hempty => ⟨fun hrun => ?running, fun hheld => ?held⟩⟩
  case running => rw [step_idle hempty, tick_running hrun]
  case held => rw [step_idle hempty, tick_held hheld]

end Sys2Proof.Settled
